-- ==== Sys2Proof/Word.lean ====
section
/-! DEFINITION. The plainest data of the TK-48: bytes, times, lanes, ports, and the two fixed-size
collections (four of a thing, sixteen of a thing) from which per-lane, per-port and per-slot state is built. -/

namespace Sys2Proof

/-- One character on a station port, one byte of a frame. -/
abbrev Byte := BitVec 8

/-- A moment or an interval, in microseconds (assumption 1). -/
abbrev Time := Nat

/-- Milliseconds as a `Time`; the manual gives its times in milliseconds. -/
def ms (n : Nat) : Time := 1000 * n

/-- What one conversion of the 12-bit converter yields, 0..4095 (R60). -/
abbrev RawCode := BitVec 12

/-- A record's serial; 0 is carried on the wire but names no record (R11, R27). -/
abbrev Serial := BitVec 24

/-- Lanes are numbered 0..3; a lane is in use when it is below N (R1). -/
abbrev Lane := Fin 4

/-- Station ports are numbered 0..3. -/
abbrev Port := Fin 4

/-- Recipe slots are numbered 0..15. -/
abbrev RecipeSlot := Fin 16

/-- Four of a thing: one for each lane, or one for each port. -/
structure Quad (α : Type) where
  e0 : α
  e1 : α
  e2 : α
  e3 : α
  deriving DecidableEq, Repr

namespace Quad

variable {α β γ : Type}

/-- The element of lane (or port) `i`. -/
def get (q : Quad α) (i : Fin 4) : α :=
  match i with
  | 0 => q.e0
  | 1 => q.e1
  | 2 => q.e2
  | 3 => q.e3

/-- The element of lane (or port) `i` replaced by `a`. -/
def set (q : Quad α) (i : Fin 4) (a : α) : Quad α :=
  match i with
  | 0 => { q with e0 := a }
  | 1 => { q with e1 := a }
  | 2 => { q with e2 := a }
  | 3 => { q with e3 := a }

def ofFn (f : Fin 4 → α) : Quad α := ⟨f 0, f 1, f 2, f 3⟩

def fill (a : α) : Quad α := ⟨a, a, a, a⟩

def map (f : α → β) (q : Quad α) : Quad β := ⟨f q.e0, f q.e1, f q.e2, f q.e3⟩

def zipWith (f : α → β → γ) (p : Quad α) (q : Quad β) : Quad γ :=
  ⟨f p.e0 q.e0, f p.e1 q.e1, f p.e2 q.e2, f p.e3 q.e3⟩

def modify (q : Quad α) (i : Fin 4) (f : α → α) : Quad α := q.set i (f (q.get i))

/-- The four elements in lane (or port) order. -/
def toList (q : Quad α) : List α := [q.e0, q.e1, q.e2, q.e3]

def all (p : α → Bool) (q : Quad α) : Bool := p q.e0 && p q.e1 && p q.e2 && p q.e3

def any (p : α → Bool) (q : Quad α) : Bool := p q.e0 || p q.e1 || p q.e2 || p q.e3

/-- The elements of lanes 0..n-1 kept, `d` for the lanes at or above `n`. -/
def restrict (q : Quad α) (n : Nat) (d : α) : Quad α :=
  ofFn fun i => if i.val < n then q.get i else d

/-- The elements of lanes 0..n-1, in lane order. -/
def take (q : Quad α) (n : Nat) : List α := q.toList.take n

end Quad

/-- The four lanes (or ports) in order. -/
def lanes4 : List (Fin 4) := [0, 1, 2, 3]

/-- The lanes 0..n-1 in lane order. -/
def lanesBelow (n : Nat) : List Lane := lanes4.filter fun i => i.val < n

/-- Sixteen of a thing, one for each recipe slot, held as four runs of four. -/
structure Bank (α : Type) where
  runs : Quad (Quad α)
  deriving DecidableEq, Repr

namespace Bank

variable {α β : Type}

def row (i : Fin 16) : Fin 4 := ⟨i.val / 4, by omega⟩

def column (i : Fin 16) : Fin 4 := ⟨i.val % 4, by omega⟩

def get (b : Bank α) (i : Fin 16) : α := (b.runs.get (row i)).get (column i)

def set (b : Bank α) (i : Fin 16) (a : α) : Bank α :=
  ⟨b.runs.modify (row i) fun q => q.set (column i) a⟩

def fill (a : α) : Bank α := ⟨Quad.fill (Quad.fill a)⟩

def map (f : α → β) (b : Bank α) : Bank β := ⟨b.runs.map fun q => q.map f⟩

/-- The sixteen elements in slot order. -/
def toList (b : Bank α) : List α :=
  b.runs.e0.toList ++ b.runs.e1.toList ++ b.runs.e2.toList ++ b.runs.e3.toList

end Bank

end Sys2Proof
end

