-- ==== Sys2Proof/Config.lean ====
section
/-! DEFINITION. What one made part fixes and the manual leaves open: the silicon revision (R183). -/

namespace Sys2Proof

/-- R183: "the silicon revision, a fixed value 1..255 set when the part is made". The manual gives no
value, so it has no body here: a claim about it holds whatever it is. The revision is this number
plus 1 (assumption 11). -/
opaque Config.revisionLessOne : Fin 255

end Sys2Proof
end

