-- ==== Sys2Proof/Syntax.lean ====
section
/-! DEFINITION. The commands of the TK-48: one constructor of `Instr` per row of spec/opcode_table.json,
with the wire forms (frame, recipe block, configuration block) that commands carry, and the requests a
port may hold. Every command carries the time `now` at which it is taken (assumption 1). -/

namespace Sys2Proof

/-- A complete frame on a port, less its SYNC: CODE, parameters and CHECK as received (R172). Its LEN is
the number of parameters plus one. -/
structure Frame where
  code : Byte
  params : List Byte
  check : Byte
  deriving DecidableEq, Repr

/-- A station entry as it travels: enabled, slot, window, report port (R182). -/
structure StationWire where
  enabled : Byte
  slot : Byte
  window : Byte
  port : Byte
  deriving DecidableEq, Repr

/-- The contents of a configuration block as its eighteen items travel (R182), before any range check. -/
structure ConfigWire where
  lanes : Byte
  length : Byte
  minInterval : BitVec 16
  rejectWidth : Byte
  form : StationWire
  load : StationWire
  card : StationWire
  heatSeal : StationWire
  inspect : StationWire
  aux : StationWire
  gatePort : Byte
  masks : Quad (Quad Byte)
  enables : Quad (BitVec 16)
  bauds : Quad Byte
  laneMask : Byte
  assignments : Quad Byte
  base : Quad (BitVec 16)
  span : Quad (BitVec 16)
  pspan : BitVec 16
  refExpected : BitVec 16
  refTolerance : Byte
  deadline : Byte
  deriving DecidableEq, Repr

/-- The twelve character positions of a recipe name (R152). -/
structure NameWire where
  first : Quad Byte
  middle : Quad Byte
  last : Quad Byte
  deriving DecidableEq, Repr

/-- The contents of a recipe block as its eleven fields travel (R182), before any range check. -/
structure RecipeWire where
  name : NameWire
  items : Byte
  required : Byte
  tAct : BitVec 16
  tMax : BitVec 16
  eCap : BitVec 16
  margin : BitVec 16
  pMin : BitVec 16
  nMin : BitVec 16
  dMin : BitVec 24
  dMax : BitVec 24
  deriving DecidableEq, Repr

/-- The requests of the request code table (R182), with their parameters in wire widths. -/
inductive Request where
  | identify
  | readLineStatus
  | enterStandby
  | leaveStandby
  | start
  | stop
  | declareWebBreak
  | setLaneMask (set : Byte)
  | setLaneRecipe (lane presence slot : Byte)
  | resetPart
  | postVerdict (station lane : Byte) (serial : Serial) (value detail : Byte)
  | setHold (lane : Byte) (serial : Serial)
  | clearHold (lane : Byte) (serial : Serial)
  | readRecord (lane slot : Byte)
  | findSerial (serial : Serial)
  | readPlane (lane selector : Byte)
  | readStrokeReport
  | readPlatens
  | readDischargeLog (first : BitVec 32) (count : Byte)
  | readEvents
  | setEventEnable (set : BitVec 16)
  | writeConfiguration (contents : ConfigWire)
  | readConfiguration
  | writeRecipe (slot : Byte) (contents : RecipeWire)
  | readRecipe (slot : Byte)
  | setPortMask (port lane mask : Byte)
  | readPortMask (port : Byte)
  deriving DecidableEq, Repr

/-- The commands, one per row of spec/opcode_table.json. Line edges, timer events and converter work come
first, then resets, then the events of a port's receiver and transmitter, then a good frame of each
request completing on a port. -/
inductive Instr where
  /-- INDEX_EDGE: a rising INDEX edge, with the levels of the CARD lines at that moment (R14, R51). -/
  | indexEdge (now : Time) (cards : Quad Bool)
  /-- SEAL_RISING_EDGE: with the code the REF channel converts to at a stroke start (R80, R85). -/
  | sealRisingEdge (now : Time) (ref : RawCode)
  /-- ROUND: with the codes PRESS and the platen channels convert to (R61, R87). -/
  | round (now : Time) (press : RawCode) (temps : Quad RawCode)
  /-- ROUND_CAP (R91). -/
  | roundCap (now : Time)
  /-- SEAL_FALLING_EDGE (R81). -/
  | sealFallingEdge (now : Time)
  /-- IDLE_PASS: with the codes the platen channels convert to (R67). -/
  | idlePass (now : Time) (temps : Quad RawCode)
  /-- REJECT_PULSE_EXPIRY of one lane's pulse (R112). -/
  | rejectPulseExpiry (now : Time) (lane : Lane)
  /-- SELF_CHECK_EXPIRY: with the code the wake REF conversion gave (R66, R136). -/
  | selfCheckExpiry (now : Time) (ref : RawCode)
  /-- STORE_WRITE_COMPLETION of the write accepted at `accepted` (R165, R166; assumption 3). -/
  | storeWriteCompletion (now accepted : Time)
  /-- STORE_WRITE_DEADLINE (R166). -/
  | storeWriteDeadline (now : Time)
  /-- POWER_ON (R140). -/
  | powerOn (now : Time)
  /-- RESET_LINE_ASSERT (R140). -/
  | resetLineAssert (now : Time)
  /-- RESET_LINE_RELEASE (R140). -/
  | resetLineRelease (now : Time)
  /-- PART_RESET_TAKEN: the last byte of `port`'s Reset Part response has gone (R184). -/
  | partResetTaken (now : Time) (port : Port)
  /-- INTER_BYTE_GAP on a port's receiver (R174). -/
  | interByteGap (now : Time) (port : Port)
  /-- BAD_LEN_FRAME: the character in LEN's place, from start bit to stop bit (R173). -/
  | badLenFrame (begun now : Time) (port : Port) (len : Byte)
  /-- FRAME_HELD: a frame completes while a response is being sent (R177). -/
  | frameHeld (now : Time) (port : Port) (frame : Frame)
  /-- LOST_FRAME: a frame completes while a frame is already held (R177). -/
  | lostFrame (now : Time) (port : Port) (frame : Frame)
  /-- RESPONSE_SENT: the last byte of a port's response has gone (R177). -/
  | responseSent (now : Time) (port : Port)
  /-- BAD_CHECK: a complete frame whose CHECK does not verify (R176). -/
  | badCheck (now : Time) (port : Port) (frame : Frame)
  /-- UNKNOWN: a frame with a good check and an unknown CODE (R176). -/
  | unknown (now : Time) (port : Port) (code : Byte) (params : List Byte)
  /-- IDENTIFY (R183). -/
  | identify (now : Time) (port : Port)
  /-- READ_LINE_STATUS (R151). -/
  | readLineStatus (now : Time) (port : Port)
  /-- ENTER_STANDBY (R126). -/
  | enterStandby (now : Time) (port : Port)
  /-- LEAVE_STANDBY (R128). -/
  | leaveStandby (now : Time) (port : Port)
  /-- START (R130). -/
  | start (now : Time) (port : Port)
  /-- STOP (R129). -/
  | stop (now : Time) (port : Port)
  /-- DECLARE_WEB_BREAK (R148). -/
  | declareWebBreak (now : Time) (port : Port)
  /-- SET_LANE_MASK (R143). -/
  | setLaneMask (now : Time) (port : Port) (set : Byte)
  /-- SET_LANE_RECIPE (R146). -/
  | setLaneRecipe (now : Time) (port : Port) (lane presence slot : Byte)
  /-- RESET_PART (R141). -/
  | resetPart (now : Time) (port : Port)
  /-- POST_VERDICT (R42). -/
  | postVerdict (now : Time) (port : Port) (station lane : Byte) (serial : Serial) (value detail : Byte)
  /-- SET_HOLD (R53). -/
  | setHold (now : Time) (port : Port) (lane : Byte) (serial : Serial)
  /-- CLEAR_HOLD (R54). -/
  | clearHold (now : Time) (port : Port) (lane : Byte) (serial : Serial)
  /-- READ_RECORD (R26). -/
  | readRecord (now : Time) (port : Port) (lane slot : Byte)
  /-- FIND_SERIAL (R27). -/
  | findSerial (now : Time) (port : Port) (serial : Serial)
  /-- READ_PLANE (R28). -/
  | readPlane (now : Time) (port : Port) (lane selector : Byte)
  /-- READ_STROKE_REPORT (R103). -/
  | readStrokeReport (now : Time) (port : Port)
  /-- READ_PLATENS (R77). -/
  | readPlatens (now : Time) (port : Port)
  /-- READ_DISCHARGE_LOG (R118). -/
  | readDischargeLog (now : Time) (port : Port) (first : BitVec 32) (count : Byte)
  /-- READ_EVENTS (R190). -/
  | readEvents (now : Time) (port : Port)
  /-- SET_EVENT_ENABLE (R189). -/
  | setEventEnable (now : Time) (port : Port) (set : BitVec 16)
  /-- WRITE_CONFIGURATION (R164). -/
  | writeConfiguration (now : Time) (port : Port) (contents : ConfigWire)
  /-- READ_CONFIGURATION (R170). -/
  | readConfiguration (now : Time) (port : Port)
  /-- WRITE_RECIPE (R162). -/
  | writeRecipe (now : Time) (port : Port) (slot : Byte) (contents : RecipeWire)
  /-- READ_RECIPE (R169). -/
  | readRecipe (now : Time) (port : Port) (slot : Byte)
  /-- SET_PORT_MASK of port `target` (R57). -/
  | setPortMask (now : Time) (port : Port) (target lane mask : Byte)
  /-- READ_PORT_MASK of port `target` (R58). -/
  | readPortMask (now : Time) (port : Port) (target : Byte)
  /-- BYTE_RECEIVED: a character, from the start of its start bit to the end of its stop bit; `stopOk` says
  whether its stop bit was valid (R171, R173). -/
  | byteReceived (begun now : Time) (port : Port) (byte : Byte) (stopOk : Bool)
  deriving DecidableEq, Repr

end Sys2Proof
end

