-- ==== Sys2Proof/Decode.lean ====
section
/-! DEFINITION. How requests travel: byte order (R181), the check byte (R175), the request code table
(R182) in both directions, and the judging of a complete frame (R176). The opcode table gives its rows no
bits, so `decodeTableWord` reads no command from any word. -/

namespace Sys2Proof

/-- The command a word spells by the bits of spec/opcode_table.json: no row of the table gives bits, so
no word spells one. -/
def decodeTableWord (_nbits _w : Nat) : Option Instr := none

/-! ## Byte order (R181) -/

/-- R181: a two-byte number, low byte first. -/
def le16 (w : BitVec 16) : List Byte := [w.extractLsb' 0 8, w.extractLsb' 8 8]

/-- R181: a three-byte number, low byte first. -/
def le24 (w : BitVec 24) : List Byte := [w.extractLsb' 0 8, w.extractLsb' 8 8, w.extractLsb' 16 8]

/-- R181: a four-byte number, low byte first. -/
def le32 (w : BitVec 32) : List Byte :=
  [w.extractLsb' 0 8, w.extractLsb' 8 8, w.extractLsb' 16 8, w.extractLsb' 24 8]

def join16 (b0 b1 : Byte) : BitVec 16 := b1 ++ b0

def join24 (b0 b1 b2 : Byte) : BitVec 24 := b2 ++ b1 ++ b0

def join32 (b0 b1 b2 b3 : Byte) : BitVec 32 := b3 ++ b2 ++ b1 ++ b0

/-- The byte at offset `k`. -/
def byteAt (l : List Byte) (k : Nat) : Byte := l.getD k 0

/-- The two-byte number at offset `k`. -/
def wordAt (l : List Byte) (k : Nat) : BitVec 16 := join16 (byteAt l k) (byteAt l (k + 1))

/-- The three-byte number at offset `k`. -/
def tripleAt (l : List Byte) (k : Nat) : BitVec 24 :=
  join24 (byteAt l k) (byteAt l (k + 1)) (byteAt l (k + 2))

/-- The four-byte number at offset `k`. -/
def longAt (l : List Byte) (k : Nat) : BitVec 32 :=
  join32 (byteAt l k) (byteAt l (k + 1)) (byteAt l (k + 2)) (byteAt l (k + 3))

/-- The four bytes from offset `k`, one per lane or port. -/
def quadAt (l : List Byte) (k : Nat) : Quad Byte :=
  ⟨byteAt l k, byteAt l (k + 1), byteAt l (k + 2), byteAt l (k + 3)⟩

/-- The four two-byte numbers from offset `k`, one per lane or port. -/
def quadWordAt (l : List Byte) (k : Nat) : Quad (BitVec 16) :=
  ⟨wordAt l k, wordAt l (k + 2), wordAt l (k + 4), wordAt l (k + 6)⟩

/-! ## The check byte (R175) -/

/-- One of the eight shifts of R175: the bit shifted out, when 1, brings in 0x07. -/
def crcShift (v : Byte) : Byte := if v.msb then (v <<< 1) ^^^ 0x07 else v <<< 1

/-- R175: a byte combined into the running value, then eight shifts. -/
def crcStep (v b : Byte) : Byte := Nat.iterate crcShift 8 (v ^^^ b)

/-- R175: the CHECK over the bytes from LEN through the last before CHECK. -/
def crc8 (bytes : List Byte) : Byte := bytes.foldl crcStep 0

/-- The LEN of a frame (R172). -/
def Frame.len (f : Frame) : Byte := BitVec.ofNat 8 (f.params.length + 1)

/-- The CHECK that a frame's bytes call for (R175). -/
def Frame.computedCheck (f : Frame) : Byte := crc8 (f.len :: f.code :: f.params)

/-- R176, test 1: the CHECK is good. -/
def Frame.checkGood (f : Frame) : Bool := f.check == f.computedCheck

/-- The frame of a code and its parameters with a good check. -/
def Frame.good (code : Byte) (params : List Byte) : Frame :=
  { code := code, params := params, check := crc8 (BitVec.ofNat 8 (params.length + 1) :: code :: params) }

/-- The bytes of a request frame on the wire, SYNC first (R172). -/
def Frame.bytes (f : Frame) : List Byte := 0xA5 :: f.len :: f.code :: (f.params ++ [f.check])

/-! ## The blocks on the wire (R182) -/

/-- A station entry's four bytes. -/
def StationWire.bytes (e : StationWire) : List Byte := [e.enabled, e.slot, e.window, e.port]

def stationAt (l : List Byte) (k : Nat) : StationWire :=
  ⟨byteAt l k, byteAt l (k + 1), byteAt l (k + 2), byteAt l (k + 3)⟩

/-- R182: the eighteen items in item-number order, 85 bytes. -/
def ConfigWire.bytes (c : ConfigWire) : List Byte :=
  [c.lanes, c.length] ++ le16 c.minInterval ++ [c.rejectWidth] ++
  c.form.bytes ++ c.load.bytes ++ c.card.bytes ++ c.heatSeal.bytes ++ c.inspect.bytes ++ c.aux.bytes ++
  [c.gatePort] ++
  c.masks.e0.toList ++ c.masks.e1.toList ++ c.masks.e2.toList ++ c.masks.e3.toList ++
  le16 c.enables.e0 ++ le16 c.enables.e1 ++ le16 c.enables.e2 ++ le16 c.enables.e3 ++
  c.bauds.toList ++ [c.laneMask] ++ c.assignments.toList ++
  le16 c.base.e0 ++ le16 c.base.e1 ++ le16 c.base.e2 ++ le16 c.base.e3 ++
  le16 c.span.e0 ++ le16 c.span.e1 ++ le16 c.span.e2 ++ le16 c.span.e3 ++
  le16 c.pspan ++ le16 c.refExpected ++ [c.refTolerance, c.deadline]

/-- The configuration contents read from the 85 bytes at offset `k`. -/
def configAt (l : List Byte) (k : Nat) : ConfigWire where
  lanes := byteAt l k
  length := byteAt l (k + 1)
  minInterval := wordAt l (k + 2)
  rejectWidth := byteAt l (k + 4)
  form := stationAt l (k + 5)
  load := stationAt l (k + 9)
  card := stationAt l (k + 13)
  heatSeal := stationAt l (k + 17)
  inspect := stationAt l (k + 21)
  aux := stationAt l (k + 25)
  gatePort := byteAt l (k + 29)
  masks := ⟨quadAt l (k + 30), quadAt l (k + 34), quadAt l (k + 38), quadAt l (k + 42)⟩
  enables := quadWordAt l (k + 46)
  bauds := quadAt l (k + 54)
  laneMask := byteAt l (k + 58)
  assignments := quadAt l (k + 59)
  base := quadWordAt l (k + 63)
  span := quadWordAt l (k + 71)
  pspan := wordAt l (k + 79)
  refExpected := wordAt l (k + 81)
  refTolerance := byteAt l (k + 83)
  deadline := byteAt l (k + 84)

/-- The twelve character positions of a name in order. -/
def NameWire.chars (n : NameWire) : List Byte := n.first.toList ++ n.middle.toList ++ n.last.toList

/-- R182: the eleven fields in field-number order, 32 bytes. -/
def RecipeWire.bytes (r : RecipeWire) : List Byte :=
  r.name.chars ++ [r.items, r.required] ++
  le16 r.tAct ++ le16 r.tMax ++ le16 r.eCap ++ le16 r.margin ++ le16 r.pMin ++ le16 r.nMin ++
  le24 r.dMin ++ le24 r.dMax

/-- The recipe contents read from the 32 bytes at offset `k`. -/
def recipeAt (l : List Byte) (k : Nat) : RecipeWire where
  name := ⟨quadAt l k, quadAt l (k + 4), quadAt l (k + 8)⟩
  items := byteAt l (k + 12)
  required := byteAt l (k + 13)
  tAct := wordAt l (k + 14)
  tMax := wordAt l (k + 16)
  eCap := wordAt l (k + 18)
  margin := wordAt l (k + 20)
  pMin := wordAt l (k + 22)
  nMin := wordAt l (k + 24)
  dMin := tripleAt l (k + 26)
  dMax := tripleAt l (k + 29)

/-! ## The request code table (R182) -/

/-- R182: the code of a request. -/
def Request.code : Request → Byte
  | .identify => 0x01
  | .readLineStatus => 0x02
  | .enterStandby => 0x10
  | .leaveStandby => 0x11
  | .start => 0x12
  | .stop => 0x13
  | .declareWebBreak => 0x14
  | .setLaneMask _ => 0x15
  | .setLaneRecipe _ _ _ => 0x16
  | .resetPart => 0x17
  | .postVerdict _ _ _ _ _ => 0x20
  | .setHold _ _ => 0x21
  | .clearHold _ _ => 0x22
  | .readRecord _ _ => 0x28
  | .findSerial _ => 0x29
  | .readPlane _ _ => 0x2A
  | .readStrokeReport => 0x30
  | .readPlatens => 0x31
  | .readDischargeLog _ _ => 0x38
  | .readEvents => 0x40
  | .setEventEnable _ => 0x41
  | .writeConfiguration _ => 0x48
  | .readConfiguration => 0x49
  | .writeRecipe _ _ => 0x4A
  | .readRecipe _ => 0x4B
  | .setPortMask _ _ _ => 0x4C
  | .readPortMask _ => 0x4D

/-- R182: the parameters of a request, in the order and widths of the table. -/
def Request.params : Request → List Byte
  | .identify => []
  | .readLineStatus => []
  | .enterStandby => []
  | .leaveStandby => []
  | .start => []
  | .stop => []
  | .declareWebBreak => []
  | .setLaneMask set => [set]
  | .setLaneRecipe lane presence slot => [lane, presence, slot]
  | .resetPart => []
  | .postVerdict station lane serial value detail => [station, lane] ++ le24 serial ++ [value, detail]
  | .setHold lane serial => lane :: le24 serial
  | .clearHold lane serial => lane :: le24 serial
  | .readRecord lane slot => [lane, slot]
  | .findSerial serial => le24 serial
  | .readPlane lane selector => [lane, selector]
  | .readStrokeReport => []
  | .readPlatens => []
  | .readDischargeLog first count => le32 first ++ [count]
  | .readEvents => []
  | .setEventEnable set => le16 set
  | .writeConfiguration contents => contents.bytes
  | .readConfiguration => []
  | .writeRecipe slot contents => slot :: contents.bytes
  | .readRecipe slot => [slot]
  | .setPortMask port lane mask => [port, lane, mask]
  | .readPortMask port => [port]

/-- R182: the LEN of each request code; `none` for a code that is not in the table. -/
def requestLen (code : Byte) : Option Nat :=
  match code.toNat with
  | 0x01 => some 1
  | 0x02 => some 1
  | 0x10 => some 1
  | 0x11 => some 1
  | 0x12 => some 1
  | 0x13 => some 1
  | 0x14 => some 1
  | 0x15 => some 2
  | 0x16 => some 4
  | 0x17 => some 1
  | 0x20 => some 8
  | 0x21 => some 5
  | 0x22 => some 5
  | 0x28 => some 3
  | 0x29 => some 4
  | 0x2A => some 3
  | 0x30 => some 1
  | 0x31 => some 1
  | 0x38 => some 6
  | 0x40 => some 1
  | 0x41 => some 3
  | 0x48 => some 86
  | 0x49 => some 1
  | 0x4A => some 34
  | 0x4B => some 2
  | 0x4C => some 4
  | 0x4D => some 2
  | _ => none

/-- R182: the request of a code and parameters of the table's length; `none` for an unknown code. -/
def requestOf (code : Byte) (p : List Byte) : Option Request :=
  match code.toNat with
  | 0x01 => some .identify
  | 0x02 => some .readLineStatus
  | 0x10 => some .enterStandby
  | 0x11 => some .leaveStandby
  | 0x12 => some .start
  | 0x13 => some .stop
  | 0x14 => some .declareWebBreak
  | 0x15 => some (.setLaneMask (byteAt p 0))
  | 0x16 => some (.setLaneRecipe (byteAt p 0) (byteAt p 1) (byteAt p 2))
  | 0x17 => some .resetPart
  | 0x20 => some (.postVerdict (byteAt p 0) (byteAt p 1) (tripleAt p 2) (byteAt p 5) (byteAt p 6))
  | 0x21 => some (.setHold (byteAt p 0) (tripleAt p 1))
  | 0x22 => some (.clearHold (byteAt p 0) (tripleAt p 1))
  | 0x28 => some (.readRecord (byteAt p 0) (byteAt p 1))
  | 0x29 => some (.findSerial (tripleAt p 0))
  | 0x2A => some (.readPlane (byteAt p 0) (byteAt p 1))
  | 0x30 => some .readStrokeReport
  | 0x31 => some .readPlatens
  | 0x38 => some (.readDischargeLog (longAt p 0) (byteAt p 4))
  | 0x40 => some .readEvents
  | 0x41 => some (.setEventEnable (wordAt p 0))
  | 0x48 => some (.writeConfiguration (configAt p 0))
  | 0x49 => some .readConfiguration
  | 0x4A => some (.writeRecipe (byteAt p 0) (recipeAt p 1))
  | 0x4B => some (.readRecipe (byteAt p 0))
  | 0x4C => some (.setPortMask (byteAt p 0) (byteAt p 1) (byteAt p 2))
  | 0x4D => some (.readPortMask (byteAt p 0))
  | _ => none

/-- The good frame of a request. -/
def Request.frame (r : Request) : Frame := Frame.good r.code r.params

/-- What the judging of a complete frame gives (R176). -/
inductive Judgement where
  | badCheck
  | unknown (code : Byte)
  | badLength (code : Byte)
  | request (r : Request)
  deriving DecidableEq, Repr

/-- R176: a complete frame is judged by its CHECK, then its CODE, then its LEN. -/
def judge (f : Frame) : Judgement :=
  if f.checkGood then
    match requestLen f.code with
    | none => .unknown f.code
    | some n =>
      if f.params.length + 1 = n then
        match requestOf f.code f.params with
        | some r => .request r
        | none => .unknown f.code
      else .badLength f.code
  else .badCheck

end Sys2Proof
end

