-- ==== Sys2Proof/Machine/Settings.lean ====
section
/-! DEFINITION. Recipes and configurations as the other blocks read them (R33, R62, 7.1, 7.2), the range and
placement checks their wire forms pass (R152, R154, R155), and the factory default settings (R157). -/

namespace Sys2Proof.Machine

/-! ## Sets and entries -/

/-- The four windowed stations, whose verdicts come in through ports (2.1). -/
inductive PortStation where
  | form
  | load
  | inspect
  | aux
  deriving DecidableEq, Repr

/-- A set drawn from the six stations: a recipe's Required set. -/
structure StationSet where
  form : Bool
  load : Bool
  card : Bool
  heatSeal : Bool
  inspect : Bool
  aux : Bool
  deriving DecidableEq, Repr

/-- A field mask, a set drawn from FORM, LOAD, INSPECT, AUX and HOLD (R56). -/
structure FieldMask where
  form : Bool
  load : Bool
  inspect : Bool
  aux : Bool
  hold : Bool
  deriving DecidableEq, Repr

/-- The empty field mask. -/
def FieldMask.empty : FieldMask := ⟨false, false, false, false, false⟩

/-- The mask member that permits posting a station's verdict (R56). -/
def FieldMask.permits (m : FieldMask) : PortStation → Bool
  | .form => m.form
  | .load => m.load
  | .inspect => m.inspect
  | .aux => m.aux

/-- One entry of the station map (R33). Only a windowed station's window is read. -/
structure StationEntry where
  enabled : Bool
  slot : Nat
  window : Nat
  port : Option Port
  deriving DecidableEq, Repr

/-- The station map (R33). -/
structure StationMap where
  form : StationEntry
  load : StationEntry
  card : StationEntry
  heatSeal : StationEntry
  inspect : StationEntry
  aux : StationEntry
  deriving DecidableEq, Repr

/-- The entry of a windowed station. -/
def StationMap.entry (m : StationMap) : PortStation → StationEntry
  | .form => m.form
  | .load => m.load
  | .inspect => m.inspect
  | .aux => m.aux

/-- The four bauds of R171. -/
inductive Baud where
  | b57600
  | b115200
  | b230400
  | b460800
  deriving DecidableEq, Repr

/-- A lane's base and span (R62). -/
structure LaneCalibration where
  base : Int
  span : Nat
  deriving DecidableEq, Repr

/-- The calibration (R62). -/
structure Calibration where
  lanes : Quad LaneCalibration
  pspan : Nat
  refExpected : Nat
  refTolerance : Nat
  deriving DecidableEq, Repr

/-- A configuration as the other blocks load it (7.2); times in milliseconds. -/
structure Configuration where
  lanes : Nat
  length : Nat
  minInterval : Nat
  rejectWidth : Nat
  stations : StationMap
  gatePort : Option Port
  masks : Quad (Quad FieldMask)
  enables : Quad (BitVec 10)
  bauds : Quad Baud
  laneMask : Quad Bool
  assignments : Quad (Option RecipeSlot)
  calibration : Calibration
  deadline : Nat
  deriving DecidableEq, Repr

/-- A recipe's seven seal limits, as a stroke copies them (R83). -/
structure SealLimits where
  tAct : Nat
  tMax : Nat
  eCap : Nat
  pMin : Nat
  nMin : Nat
  dMin : Nat
  dMax : Nat
  deriving DecidableEq, Repr

/-- A recipe as its readers take it (7.1, R153). Its name is read by Read Recipe alone, from the block. -/
structure Recipe where
  items : Nat
  required : StationSet
  margin : Nat
  limits : SealLimits
  deriving DecidableEq, Repr

/-! ## Checks -/

/-- The number of the first check that fails, counted from 1. -/
def firstFailing : List Bool → Option Nat
  | [] => none
  | true :: rest => (firstFailing rest).map (· + 1)
  | false :: _ => some 1

/-- A value lies in `lo..hi`, both ends included. -/
def within (lo hi n : Nat) : Bool := decide (lo ≤ n) && decide (n ≤ hi)

/-- R152: a position holds 0 or a code in 0x20..0x7E. -/
def nameChar (c : Byte) : Bool := c.toNat == 0 || within 0x20 0x7E c.toNat

/-- R152: no nonzero position follows a 0. -/
def zerosTrail : List Byte → Bool
  | [] => true
  | c :: rest => if c = 0 then rest.all (· == 0) else zerosTrail rest

/-- R152, field 1. -/
def nameOk (n : NameWire) : Bool :=
  n.first.e0 != 0 && n.chars.all nameChar && zerosTrail n.chars

/-- R152: the fields of a recipe in the order of their numbers. -/
def recipeChecks (r : RecipeWire) : List Bool :=
  [ nameOk r.name,
    within 1 12 r.items.toNat,
    decide (r.required.toNat < 64),
    within 500 2500 r.tAct.toNat,
    within (r.tAct.toNat + 50) 3000 r.tMax.toNat,
    within 10 1000 r.eCap.toNat,
    within 0 300 r.margin.toNat,
    within 1 1000 r.pMin.toNat,
    within 1 2048 r.nMin.toNat,
    within 0 1048575 r.dMin.toNat,
    within r.dMin.toNat 1048575 r.dMax.toNat ]

/-- R152: the number of the first field that fails. -/
def recipeFault (r : RecipeWire) : Option Nat := firstFailing (recipeChecks r)

/-- R181: an optional port inside a configuration block, 0xFF for none. -/
def optionalPortOk (b : Byte) : Bool := decide (b.toNat < 4) || b == 0xFF

/-- The parts of R154 that every station entry shares: enabled is 0 or 1, the slot lies in 0..L-1. -/
def entryRangeOk (length : Nat) (e : StationWire) : Bool :=
  decide (e.enabled.toNat ≤ 1) && decide (e.slot.toNat < length)

/-- R154 and R155 for FORM, LOAD, INSPECT and AUX. -/
def windowedEntryOk (length : Nat) (e : StationWire) : Bool :=
  entryRangeOk length e && within 1 8 e.window.toNat && optionalPortOk e.port &&
    (e.enabled.toNat == 0 || decide (e.slot.toNat + e.window.toNat + 2 ≤ length))

/-- R154, R155 and R182 for CARD: window byte 0, port byte 0xFF. -/
def cardEntryOk (length : Nat) (e : StationWire) : Bool :=
  entryRangeOk length e && e.window == 0 && e.port == 0xFF &&
    (e.enabled.toNat == 0 || decide (e.slot.toNat + 2 ≤ length))

/-- R154, R155 and R182 for SEAL: window byte 0. -/
def sealEntryOk (length : Nat) (e : StationWire) : Bool :=
  entryRangeOk length e && e.window == 0 && optionalPortOk e.port &&
    (e.enabled.toNat == 0 || decide (e.slot.toNat + 3 ≤ length))

/-- R181, R57: no bit 2, 3 or 7. -/
def maskByteOk (b : Byte) : Bool := b &&& 0x8C == 0

/-- R154: a set drawn from the ten event flags. -/
def eventSetOk (w : BitVec 16) : Bool := decide (w.toNat < 1024)

/-- R154: a recipe slot 0..15, or 0xFF for none. -/
def assignmentOk (b : Byte) : Bool := decide (b.toNat < 16) || b == 0xFF

/-- R62: base -500..+500. -/
def baseOk (w : BitVec 16) : Bool := decide (-500 ≤ w.toInt) && decide (w.toInt ≤ 500)

/-- R62: span 1..8191. -/
def spanOk (w : BitVec 16) : Bool := within 1 8191 w.toNat

/-- R154, item 17. -/
def calibrationOk (c : ConfigWire) : Bool :=
  c.base.all baseOk && c.span.all spanOk && within 1 4000 c.pspan.toNat &&
    within 0 4095 c.refExpected.toNat && within 1 200 c.refTolerance.toNat

/-- R154, R155: the items of a configuration in the order of their numbers. -/
def configChecks (c : ConfigWire) : List Bool :=
  [ within 1 4 c.lanes.toNat,
    within 8 48 c.length.toNat,
    within 20 1000 c.minInterval.toNat,
    within 5 250 c.rejectWidth.toNat,
    windowedEntryOk c.length.toNat c.form,
    windowedEntryOk c.length.toNat c.load,
    cardEntryOk c.length.toNat c.card,
    sealEntryOk c.length.toNat c.heatSeal,
    windowedEntryOk c.length.toNat c.inspect,
    windowedEntryOk c.length.toNat c.aux,
    optionalPortOk c.gatePort,
    c.masks.all fun q => q.all maskByteOk,
    c.enables.all eventSetOk,
    c.bauds.all fun b => decide (b.toNat ≤ 3),
    decide (c.laneMask.toNat < 2 ^ c.lanes.toNat),
    c.assignments.all assignmentOk,
    calibrationOk c,
    decide (c.deadline.toNat ≤ 3) ]

/-- R154, R155: the number of the first item that fails. -/
def configFault (c : ConfigWire) : Option Nat := firstFailing (configChecks c)

/-! ## Reading the wire forms -/

/-- R181: a set of stations, bit 0 FORM to bit 5 AUX. -/
def stationSetOf (b : Byte) : StationSet :=
  ⟨b.getLsbD 0, b.getLsbD 1, b.getLsbD 2, b.getLsbD 3, b.getLsbD 4, b.getLsbD 5⟩

/-- R181: a field mask; bit 6 is HOLD. -/
def fieldMaskOf (b : Byte) : FieldMask :=
  ⟨b.getLsbD 0, b.getLsbD 1, b.getLsbD 4, b.getLsbD 5, b.getLsbD 6⟩

/-- R181: a set of lanes, bit n for lane n. -/
def laneSetOf (b : Byte) : Quad Bool := Quad.ofFn fun n => b.getLsbD n.val

/-- R181: an optional port, 0xFF for none. -/
def optionalPortOf (b : Byte) : Option Port :=
  if b.toNat < 4 then some (Fin.ofNat 4 b.toNat) else none

/-- R181: an optional recipe slot, 0xFF for none. -/
def optionalSlotOf (b : Byte) : Option RecipeSlot :=
  if b.toNat < 16 then some (Fin.ofNat 16 b.toNat) else none

def stationEntryOf (e : StationWire) : StationEntry :=
  { enabled := e.enabled == 1, slot := e.slot.toNat, window := e.window.toNat, port := optionalPortOf e.port }

/-- R181: the code of a baud. -/
def baudOf (b : Byte) : Baud :=
  match b.toNat with
  | 0 => .b57600
  | 1 => .b115200
  | 2 => .b230400
  | _ => .b460800

/-- R181: the code of a store write deadline, in milliseconds. -/
def deadlineOf (b : Byte) : Nat :=
  match b.toNat with
  | 0 => 10
  | 1 => 20
  | 2 => 40
  | _ => 80

/-- The settings a configuration block's contents stand for. -/
def configurationOf (c : ConfigWire) : Configuration where
  lanes := c.lanes.toNat
  length := c.length.toNat
  minInterval := c.minInterval.toNat
  rejectWidth := c.rejectWidth.toNat
  stations :=
    { form := stationEntryOf c.form
      load := stationEntryOf c.load
      card := stationEntryOf c.card
      heatSeal := stationEntryOf c.heatSeal
      inspect := stationEntryOf c.inspect
      aux := stationEntryOf c.aux }
  gatePort := optionalPortOf c.gatePort
  masks := c.masks.map fun q => q.map fieldMaskOf
  enables := c.enables.map fun w => w.setWidth 10
  bauds := c.bauds.map baudOf
  laneMask := laneSetOf c.laneMask
  assignments := c.assignments.map optionalSlotOf
  calibration :=
    { lanes := Quad.zipWith (fun b s => { base := b.toInt, span := s.toNat }) c.base c.span
      pspan := c.pspan.toNat
      refExpected := c.refExpected.toNat
      refTolerance := c.refTolerance.toNat }
  deadline := deadlineOf c.deadline

/-- The recipe a recipe block's contents stand for. -/
def recipeOfWire (r : RecipeWire) : Recipe where
  items := r.items.toNat
  required := stationSetOf r.required
  margin := r.margin.toNat
  limits :=
    { tAct := r.tAct.toNat
      tMax := r.tMax.toNat
      eCap := r.eCap.toNat
      pMin := r.pMin.toNat
      nMin := r.nMin.toNat
      dMin := r.dMin.toNat
      dMax := r.dMax.toNat }

/-! ## Factory default settings (R157) -/

/-- R34, R157: the factory default station map. AUX is not enabled, and its other parts are not acted
on (R35). -/
def factoryStations : StationMap where
  form := { enabled := true, slot := 2, window := 2, port := some 0 }
  load := { enabled := true, slot := 6, window := 3, port := some 1 }
  card := { enabled := true, slot := 9, window := 0, port := none }
  heatSeal := { enabled := true, slot := 11, window := 0, port := some 3 }
  inspect := { enabled := true, slot := 16, window := 4, port := some 2 }
  aux := { enabled := false, slot := 0, window := 1, port := none }

/-- R59, R157: the factory default field masks, the same for every lane. -/
def factoryMasks : Quad (Quad FieldMask) where
  e0 := Quad.fill { FieldMask.empty with form := true, hold := true }
  e1 := Quad.fill { FieldMask.empty with load := true }
  e2 := Quad.fill { FieldMask.empty with inspect := true }
  e3 := Quad.fill { FieldMask.empty with hold := true }

/-- R157: the factory default settings, which no block stores and no request rewrites. -/
def factoryDefault : Configuration where
  lanes := 2
  length := 24
  minInterval := 50
  rejectWidth := 40
  stations := factoryStations
  gatePort := some 3
  masks := factoryMasks
  enables := Quad.fill 0x3FF
  bauds := Quad.fill .b115200
  laneMask := ⟨true, true, false, false⟩
  assignments := Quad.fill none
  calibration :=
    { lanes := Quad.fill { base := -200, span := 4000 }, pspan := 1000, refExpected := 2048, refTolerance := 40 }
  deadline := 20

end Sys2Proof.Machine
end

