-- ==== Sys2Proof/Machine/State.lean ====
section
/-! DEFINITION. The state of the TK-48 as plain data, one structure per functional block of the manual's block
overview, the outcomes' reasons, and the state right after reset. -/

namespace Sys2Proof.Machine

/-! ## Web Track (chapter 1) -/

/-- A Form, Inspect or Aux field (R4). -/
inductive Verdict where
  | none
  | pass
  | fail (detail : Byte)
  | late
  deriving DecidableEq, Repr

/-- A Load field (R5). -/
inductive LoadVerdict where
  | none
  | pass (count : Byte)
  | fail (count : Byte)
  | late
  deriving DecidableEq, Repr

/-- A Card field (R6). -/
inductive CardMark where
  | none
  | present
  | missing
  deriving DecidableEq, Repr

/-- The verdicts of a complete stroke (R93). -/
inductive SealVerdict where
  | pass
  | under
  | over
  | short
  | hot
  | sensor
  deriving DecidableEq, Repr

/-- A Seal field (R6): every value but NONE and ABORTED carries a dose. -/
inductive SealMark where
  | none
  | judged (verdict : SealVerdict) (dose : Nat)
  | aborted
  | double (dose : Nat)
  deriving DecidableEq, Repr

/-- The fields of a PRODUCT record (1.2). -/
structure Product where
  serial : Serial
  recipe : RecipeSlot
  form : Verdict
  load : LoadVerdict
  card : CardMark
  heatSeal : SealMark
  inspect : Verdict
  aux : Verdict
  hold : Option Port
  deriving DecidableEq, Repr

/-- A pocket record; its Kind decides its fields (R2). -/
inductive Record where
  | product (p : Product)
  | void
  | untracked
  deriving DecidableEq, Repr

/-- The Web Track: the geometry in force, the records of each lane in slot order, the counters, and the
time of the last taken INDEX edge. A lane at or above N holds no record (R1). -/
structure WebTrack where
  lanes : Nat
  length : Nat
  minInterval : Nat
  rows : Quad (List Record)
  nextSerial : Serial
  indexCount : BitVec 32
  lastTaken : Option Time
  deriving DecidableEq, Repr

/-! ## Verdict Unit (chapter 2) -/

/-- The station map in force and the field masks, by port and then lane (R33, R56). -/
structure VerdictUnit where
  stations : StationMap
  masks : Quad (Quad FieldMask)
  deriving DecidableEq, Repr

/-! ## Acquisition Unit (chapter 3) -/

/-- A lane's ready state (R72). -/
inductive ReadyState where
  | noRecipe
  | unknown
  | fault
  | cold
  | hot
  | ready
  deriving DecidableEq, Repr

/-- What the Acquisition Unit holds for a lane: the idle sample buffer, oldest first, the fault mark, the
ready state and the last raw TEMP code. -/
structure LaneSamples where
  buffer : List Nat
  faulted : Bool
  ready : ReadyState
  lastRaw : Option RawCode
  deriving DecidableEq, Repr

/-- Where a reference result came from (R65, R66). -/
inductive RefSource where
  | wake
  | stroke
  deriving DecidableEq, Repr

/-- A reference result: its code, whether it was ok, and its source. -/
structure RefResult where
  code : RawCode
  ok : Bool
  source : RefSource
  deriving DecidableEq, Repr

/-- The Acquisition Unit. `idleDue` is the idle pass timer: the time the next pass falls due, or stopped. -/
structure Acquisition where
  calibration : Calibration
  lanes : Quad LaneSamples
  pressRaw : Option RawCode
  reference : Option RefResult
  idleDue : Option Time
  deriving DecidableEq, Repr

/-! ## Stroke Evaluator (chapter 4) -/

/-- A lane of a stroke in flight (R79). It is evaluated when it has a recipe used, which comes with the copy
of that recipe's seal limits. -/
structure StrokeLane where
  serial : Option Serial
  used : Option (RecipeSlot × SealLimits)
  faulted : Bool
  dwell : Nat
  dose : Nat
  peak : Option Nat
  deriving DecidableEq, Repr

/-- The stroke in flight (R79). Its lanes are 0..laneCount-1. -/
structure Stroke where
  number : BitVec 16
  laneCount : Nat
  lanes : Quad StrokeLane
  refOk : Bool
  long : Bool
  rounds : Nat
  deriving DecidableEq, Repr

/-- The evaluator's state (R79); while SAMPLING, with the time the next round falls due. -/
inductive StrokePhase where
  | idle
  | sampling (nextRound : Time) (stroke : Stroke)
  | capped (stroke : Stroke)
  deriving DecidableEq, Repr

/-- How a stroke ended (R101). -/
inductive EndKind where
  | complete
  | aborted
  deriving DecidableEq, Repr

/-- A stroke report's verdict for a lane, coded as the Seal field is (R101). -/
inductive ReportVerdict where
  | none
  | judged (verdict : SealVerdict)
  | aborted
  deriving DecidableEq, Repr

/-- A stroke report's entry for a lane (R101). -/
structure LaneReport where
  serial : Option Serial
  recipe : Option RecipeSlot
  rounds : Nat
  dwell : Nat
  dose : Nat
  peak : Option Nat
  verdict : ReportVerdict
  deriving DecidableEq, Repr

/-- A stroke report (R101). -/
structure StrokeReport where
  number : BitVec 16
  endKind : EndKind
  refOk : Bool
  long : Bool
  lanes : List LaneReport
  deriving DecidableEq, Repr

/-- The Stroke Evaluator: its state with any stroke in flight, the number of the most recent stroke, and the
last report. -/
structure StrokeEvaluator where
  phase : StrokePhase
  number : BitVec 16
  report : Option StrokeReport
  deriving DecidableEq, Repr

/-! ## Discharge Gate (chapter 5) -/

/-- The gate's decision (R107). -/
inductive Disposition where
  | accepted
  | rejected
  deriving DecidableEq, Repr

/-- The causes of a rejection (R108, R109). -/
inductive Cause where
  | held
  | form
  | load
  | card
  | heatSeal
  | inspect
  | aux
  | untracked
  | void
  deriving DecidableEq, Repr

/-- The Kind of a record (R2). -/
inductive Kind where
  | product
  | void
  | untracked
  deriving DecidableEq, Repr

/-- A discharge log entry (R114). -/
structure LogEntry where
  seq : BitVec 32
  indexCount : BitVec 32
  lane : Lane
  kind : Kind
  serial : Option Serial
  recipe : Option RecipeSlot
  disposition : Disposition
  causes : List Cause
  dose : Option Nat
  deriving DecidableEq, Repr

/-- The Discharge Gate: for each lane the running REJECT pulse's end time, the settings it reads, the log,
oldest first, and the next sequence number. -/
structure Gate where
  pulses : Quad (Option Time)
  rejectWidth : Nat
  reportPort : Option Port
  log : List LogEntry
  nextSeq : BitVec 32
  deriving DecidableEq, Repr

/-! ## Mode Controller (chapter 6) -/

/-- The line mode (6.1). -/
inductive Mode where
  | standby
  | waking
  | setup
  | run
  | drain
  deriving DecidableEq, Repr

/-- The configuration state (R149). -/
inductive ConfigState where
  | unverified
  | valid
  | invalid
  deriving DecidableEq, Repr

/-- The origin of a WAKING (R135). -/
inductive WakeOrigin where
  | reset
  | leaveStandby
  deriving DecidableEq, Repr

/-- The self-check timer, as the time it runs out, and the origin of the WAKING in progress (R135). -/
structure Wake where
  due : Time
  origin : WakeOrigin
  deriving DecidableEq, Repr

/-- The Mode Controller. `wake` is present while a self-check runs. -/
structure ModeController where
  mode : Mode
  laneMask : Quad Bool
  assignments : Quad (Option RecipeSlot)
  configState : ConfigState
  wake : Option Wake
  deriving DecidableEq, Repr

/-! ## Recipe Store (chapter 7) -/

/-- A block's state (R158). -/
inductive BlockState where
  | empty
  | valid
  | invalid
  | unverified
  deriving DecidableEq, Repr

/-- A store block (R158). The check value is held as whether it matches the contents (assumption 10). -/
structure Block (α : Type) where
  contents : Option α
  checkMatches : Bool
  openMark : Bool
  state : BlockState
  deriving DecidableEq, Repr

/-- The block a write is for, with the contents being written (R161). -/
inductive WriteTarget where
  | configuration (contents : ConfigWire)
  | recipe (slot : RecipeSlot) (contents : RecipeWire)
  deriving DecidableEq, Repr

/-- A write in flight: its block and contents, the port that asked, the time it was accepted, and the time
its deadline timer runs out (R161). -/
structure StoreWrite where
  target : WriteTarget
  port : Port
  accepted : Time
  due : Time
  deriving DecidableEq, Repr

/-- The Recipe Store. The write engine is IDLE when `engine` is absent; `deadline` is in milliseconds. -/
structure RecipeStore where
  config : Block ConfigWire
  recipes : Bank (Block RecipeWire)
  engine : Option StoreWrite
  deadline : Nat
  deriving DecidableEq, Repr

/-! ## Station Ports (chapter 8) -/

/-- The statuses of responses (R180). -/
inductive Status where
  | ok
  | unknown
  | badCheck
  | badLength
  | badValue
  | busy
  | standby
  | wrongMode
  | denied
  | notFound
  | early
  | tooLate
  | already
  | inUse
  | notReady
  | configInvalid
  | recipeInvalid
  deriving DecidableEq, Repr

/-- What an owning block answers: a status and data. -/
structure Reply where
  status : Status
  data : List Byte
  deriving DecidableEq, Repr

/-- A response as built: its CODE, status and data, and FLAGS bits 0 and 1 (R179). -/
structure Response where
  code : Byte
  status : Status
  attention : Bool
  lost : Bool
  data : List Byte
  deriving DecidableEq, Repr

/-- A port's receive state (R173): the bytes gathered after the SYNC, LEN first, and the time of the last. -/
inductive Receiver where
  | hunting
  | inFrame (bytes : List Byte) (lastByte : Time)
  deriving DecidableEq, Repr

/-- A station port. The transmitter's baud differs from the receiver's only while a response is finished at
the old baud (R171). -/
structure StationPort where
  rxBaud : Baud
  txBaud : Baud
  receiver : Receiver
  sending : Option Response
  held : Option Frame
  lost : Bool
  deriving DecidableEq, Repr

/-! ## Event Unit (chapter 9) -/

/-- A store write's result as the requesting port hears it (R188). -/
inductive StoreResult where
  | ok
  | timeout
  deriving DecidableEq, Repr

/-- A port's flags, enable set and held store result (R188, R189). Bit n is the flag of bit n. -/
structure PortEvents where
  flags : BitVec 10
  enable : BitVec 10
  storeResult : Option StoreResult
  deriving DecidableEq, Repr

/-! ## The part -/

/-- The whole state: the nine blocks, whether the RESET line is held, and the queue of waiting commands. -/
structure State where
  web : WebTrack
  verdict : VerdictUnit
  acq : Acquisition
  stroke : StrokeEvaluator
  gate : Gate
  mode : ModeController
  store : RecipeStore
  ports : Quad StationPort
  events : Quad PortEvents
  resetHeld : Bool
  pending : List Instr
  deriving DecidableEq, Repr

/-- Faults. The manual gives the part no condition that stops it, so no command raises one and the type has
no constructor. -/
inductive Fault where
  deriving DecidableEq, Repr

/-- Refusals. -/
inductive Refusal where
  /-- Raised by `exec`'s arm of a command that has no meaning yet; no command is in that case. Safe. -/
  | notModelled (mnemonic : String)
  deriving DecidableEq, Repr

/-- A store block since the store was erased (R158). -/
def Block.erased {α : Type} : Block α :=
  { contents := none, checkMatches := false, openMark := false, state := .unverified }

/-- R78: a lane's acquisition state after a reset, with the ready state its assignment gives it. -/
def LaneSamples.fresh (ready : ReadyState) : LaneSamples :=
  { buffer := [], faulted := false, ready := ready, lastRaw := none }

/-- R184: a port after a reset, at the baud the configuration gives it. -/
def StationPort.fresh (baud : Baud) : StationPort :=
  { rxBaud := baud, txBaud := baud, receiver := .hunting, sending := none, held := none, lost := false }

/-- R191: a port's events after a reset, with the enable set the configuration gives it. -/
def PortEvents.fresh (enable : BitVec 10) : PortEvents :=
  { flags := 0, enable := enable, storeResult := none }

/-- The machine right after a power-on reset at time 0 of a part as delivered, whose store is erased (R157)
and so supplies the factory default settings (R159): R31, R34, R59, R78, R104, R121, R140, R167, R184, R191.
The RESET line is not held (assumption 9). -/
def State.reset : State where
  web :=
    { lanes := 2
      length := 24
      minInterval := 50
      rows := ⟨List.replicate 24 .untracked, List.replicate 24 .untracked, [], []⟩
      nextSerial := 1
      indexCount := 0
      lastTaken := none }
  verdict :=
    { stations := factoryStations
      masks := factoryMasks.map fun q => q.restrict 2 FieldMask.empty }
  acq :=
    { calibration := factoryDefault.calibration
      lanes := Quad.fill (LaneSamples.fresh .noRecipe)
      pressRaw := none
      reference := none
      idleDue := none }
  stroke := { phase := .idle, number := 0, report := none }
  gate := { pulses := Quad.fill none, rejectWidth := 40, reportPort := some 3, log := [], nextSeq := 0 }
  mode :=
    { mode := .waking
      laneMask := ⟨true, true, false, false⟩
      assignments := Quad.fill none
      configState := .unverified
      wake := some { due := ms 30, origin := .reset } }
  store := { config := Block.erased, recipes := Bank.fill Block.erased, engine := none, deadline := 20 }
  ports := Quad.fill (StationPort.fresh .b115200)
  events := Quad.fill (PortEvents.fresh 0x3FF)
  resetHeld := false
  pending := []

end Sys2Proof.Machine
end

