-- ==== Sys2Proof/Machine/Ops.lean ====
section
/-! DEFINITION. The named operations the blocks share: replacing one block of the state, finding and changing
records on the track (R9, R10), the track loss (R22), and reading recipes (R153). -/

namespace Sys2Proof.Machine

/-! ## One block replaced -/

def State.setWeb (s : State) (w : WebTrack) : State := { s with web := w }

def State.setVerdict (s : State) (v : VerdictUnit) : State := { s with verdict := v }

def State.setAcq (s : State) (a : Acquisition) : State := { s with acq := a }

def State.setStroke (s : State) (e : StrokeEvaluator) : State := { s with stroke := e }

def State.setGate (s : State) (g : Gate) : State := { s with gate := g }

def State.setMode (s : State) (m : ModeController) : State := { s with mode := m }

def State.setStore (s : State) (r : RecipeStore) : State := { s with store := r }

def State.setPorts (s : State) (p : Quad StationPort) : State := { s with ports := p }

def State.setEvents (s : State) (e : Quad PortEvents) : State := { s with events := e }

def State.setRows (s : State) (rows : Quad (List Record)) : State := s.setWeb { s.web with rows := rows }

/-! ## Modes -/

/-- SETUP, RUN and DRAIN: the modes in which a taken index shifts the track, idle sampling runs, and a
rising SEAL edge starts a stroke (6.1). -/
def Mode.active : Mode → Bool
  | .standby => false
  | .waking => false
  | .setup => true
  | .run => true
  | .drain => true

/-- RUN and DRAIN. -/
def Mode.producing : Mode → Bool
  | .run => true
  | .drain => true
  | .standby => false
  | .waking => false
  | .setup => false

/-! ## Records -/

/-- R19: a PRODUCT record as the track shift creates it. -/
def Product.fresh (serial : Serial) (recipe : RecipeSlot) : Product where
  serial := serial
  recipe := recipe
  form := .none
  load := .none
  card := .none
  heatSeal := .none
  inspect := .none
  aux := .none
  hold := none

def Record.product? : Record → Option Product
  | .product p => some p
  | .void => none
  | .untracked => none

def Record.isProduct (r : Record) : Bool := r.product?.isSome

/-- A change made to a PRODUCT record; a VOID or UNTRACKED record is left as it is (R2, R9). -/
def Record.onProduct (f : Product → Product) : Record → Record
  | .product p => .product (f p)
  | .void => .void
  | .untracked => .untracked

/-- R9: the slot and the PRODUCT record with the serial in one lane's records. -/
def findInRow (n : Serial) : List Record → Option (Nat × Product)
  | [] => none
  | .product p :: rest =>
    if p.serial = n then some (0, p) else (findInRow n rest).map fun x => (x.1 + 1, x.2)
  | .void :: rest => (findInRow n rest).map fun x => (x.1 + 1, x.2)
  | .untracked :: rest => (findInRow n rest).map fun x => (x.1 + 1, x.2)

/-- R27: the lane, the slot and the PRODUCT record with the serial, searching the lanes in order. -/
def findInLanes (rows : Quad (List Record)) (n : Serial) : List Lane → Option (Lane × Nat × Product)
  | [] => none
  | lane :: rest =>
    match findInRow n (rows.get lane) with
    | some x => some (lane, x)
    | none => findInLanes rows n rest

/-- R9, R10: the PRODUCT record with the serial, in any lane. -/
def findOnTrack (rows : Quad (List Record)) (n : Serial) : Option (Lane × Nat × Product) :=
  findInLanes rows n lanes4

/-- A change to the PRODUCT record at a lane and slot (R9). -/
def changeAt (rows : Quad (List Record)) (lane : Lane) (slot : Nat) (f : Product → Product) :
    Quad (List Record) :=
  rows.set lane ((rows.get lane).modify slot (Record.onProduct f))

/-- R9, R10: a change to the PRODUCT record with the serial in any lane; none is made when it is not found. -/
def changeSerial (rows : Quad (List Record)) (n : Serial) (f : Product → Product) : Quad (List Record) :=
  match findOnTrack rows n with
  | some (lane, slot, _) => changeAt rows lane slot f
  | none => rows

/-- R30: the number of PRODUCT records of a lane. -/
def rowCount (row : List Record) : Nat := row.countP Record.isProduct

/-- R30: the number of PRODUCT records on the track. -/
def productCount (rows : Quad (List Record)) : Nat :=
  rowCount rows.e0 + rowCount rows.e1 + rowCount rows.e2 + rowCount rows.e3

/-- R163: a PRODUCT record of the lane names the recipe slot. -/
def rowNames (slot : RecipeSlot) (row : List Record) : Bool :=
  row.any fun r => match r.product? with
    | some p => p.recipe == slot
    | none => false

/-- R1, R22: an N x L track of UNTRACKED records; no record in a lane at or above N. -/
def untrackedRows (lanes length : Nat) : Quad (List Record) :=
  Quad.ofFn fun n => if n.val < lanes then List.replicate length .untracked else []

/-- R22: the track lost at the geometry given; the counters and the last taken edge are kept. -/
def WebTrack.lose (w : WebTrack) (lanes length : Nat) : WebTrack :=
  { w with lanes := lanes, length := length, rows := untrackedRows lanes length }

/-! ## Reading recipes -/

/-- The state of a recipe slot's block. -/
def RecipeStore.recipeState (r : RecipeStore) (slot : RecipeSlot) : BlockState := (r.recipes.get slot).state

/-- Whether a recipe slot's block is VALID. -/
def RecipeStore.recipeValid (r : RecipeStore) (slot : RecipeSlot) : Bool := r.recipeState slot == .valid

/-- R153: the contents of a recipe slot when its block is VALID. A write in flight does not change them. -/
def RecipeStore.recipe (r : RecipeStore) (slot : RecipeSlot) : Option Recipe :=
  if r.recipeValid slot then (r.recipes.get slot).contents.map recipeOfWire else none

/-- A lane's assigned recipe, when its block is VALID. -/
def State.assignedRecipe (s : State) (lane : Lane) : Option (RecipeSlot × Recipe) :=
  match s.mode.assignments.get lane with
  | some slot => (s.store.recipe slot).map fun r => (slot, r)
  | none => none

/-- R163: a slot is in use when a PRODUCT record on the track or the assignment of a lane below N names it. -/
def State.slotInUse (s : State) (slot : RecipeSlot) : Bool :=
  s.web.rows.any (rowNames slot) ||
    (lanesBelow s.web.lanes).any fun n => s.mode.assignments.get n == some slot

/-- The engine is writing this recipe slot (R147, R169). -/
def RecipeStore.writingRecipe (r : RecipeStore) (slot : RecipeSlot) : Bool :=
  match r.engine with
  | some w =>
    match w.target with
    | .recipe n _ => n == slot
    | .configuration _ => false
  | none => false

/-- The engine is writing the configuration block (R130, R170). -/
def RecipeStore.writingConfiguration (r : RecipeStore) : Bool :=
  match r.engine with
  | some w =>
    match w.target with
    | .recipe _ _ => false
    | .configuration _ => true
  | none => false

end Sys2Proof.Machine
end

