-- ==== Sys2Proof/Machine/Flags.lean ====
section
/-! DEFINITION. The Event Unit: raising event flags, the attention lines, reading and clearing (chapter 9). -/

namespace Sys2Proof.Machine

/-- The ten event flags (R188). -/
inductive EventFlag where
  | arrival
  | late
  | stroke
  | readyChange
  | gate
  | mode
  | trackLost
  | glitch
  | storeDone
  | resetDone
  deriving DecidableEq, Repr

/-- R188: the bit of a flag. -/
def EventFlag.bit : EventFlag → Nat
  | .arrival => 0
  | .late => 1
  | .stroke => 2
  | .readyChange => 3
  | .gate => 4
  | .mode => 5
  | .trackLost => 6
  | .glitch => 7
  | .storeDone => 8
  | .resetDone => 9

/-- The set of one flag. -/
def EventFlag.mask (f : EventFlag) : BitVec 10 := BitVec.twoPow 10 f.bit

/-- R188: a flag set on one port; setting a set flag leaves it set. -/
def PortEvents.raise (e : PortEvents) (f : EventFlag) : PortEvents := { e with flags := e.flags ||| f.mask }

/-- R189: whether the port's ATTN line is driven. -/
def PortEvents.attention (e : PortEvents) : Bool := e.flags &&& e.enable != 0

/-- A flag raised on one port. -/
def State.raiseOn (s : State) (p : Port) (f : EventFlag) : State :=
  s.setEvents (s.events.modify p fun e => e.raise f)

/-- A flag raised on the port an owning rule names; where it names none, no flag is set (R188). -/
def State.raiseAt (s : State) (p : Option Port) (f : EventFlag) : State :=
  match p with
  | some p => s.raiseOn p f
  | none => s

/-- A flag raised on every port. -/
def State.raiseAll (s : State) (f : EventFlag) : State := s.setEvents (s.events.map fun e => e.raise f)

/-- R188: STORE_DONE set with its result, which replaces any result held before. -/
def State.storeDone (s : State) (p : Port) (r : StoreResult) : State :=
  s.setEvents (s.events.modify p fun e => { e.raise .storeDone with storeResult := some r })

/-- R190: the flags both set and enabled. -/
def PortEvents.reported (e : PortEvents) : BitVec 10 := e.flags &&& e.enable

/-- R190: STORE_DONE is reported. -/
def PortEvents.reportsStore (e : PortEvents) : Bool := e.reported &&& EventFlag.storeDone.mask != 0

/-- R190: the reported flags cleared, and the held store result when STORE_DONE is reported. -/
def PortEvents.clearReported (e : PortEvents) : PortEvents :=
  { e with
    flags := e.flags &&& ~~~e.enable
    storeResult := if e.reportsStore then none else e.storeResult }

/-- R22, R23: the track lost at the geometry given, with TRACK_LOST on every port. -/
def State.loseTrackAt (s : State) (lanes length : Nat) : State :=
  (s.setWeb (s.web.lose lanes length)).raiseAll .trackLost

/-- R22: the track lost at the geometry in force. -/
def State.loseTrack (s : State) : State := s.loseTrackAt s.web.lanes s.web.length

/-- R123: the mode changed, with MODE on every port. -/
def State.changeMode (s : State) (m : Mode) : State := (s.setMode { s.mode with mode := m }).raiseAll .mode

end Sys2Proof.Machine
end

