-- ==== Sys2Proof/Machine/Operands.lean ====
section
/-! DEFINITION. What request parameters name (lanes, ports, slots, stations), and the codes and byte layouts in
which replies carry the part's state (R25, R180, R181, R182, R185, R186, R187). -/

namespace Sys2Proof.Machine

/-! ## Parameters -/

/-- A lane parameter naming a lane below N. -/
def laneOf (lanes : Nat) (b : Byte) : Option Lane :=
  if b.toNat < 4 ∧ b.toNat < lanes then some (Fin.ofNat 4 b.toNat) else none

/-- A port parameter, 0..3. -/
def portOf (b : Byte) : Option Port := if b.toNat < 4 then some (Fin.ofNat 4 b.toNat) else none

/-- A recipe slot parameter, 0..15. -/
def slotOf (b : Byte) : Option RecipeSlot := if b.toNat < 16 then some (Fin.ofNat 16 b.toNat) else none

/-- The windowed station of a station code (2.1); none for CARD, SEAL and codes outside the table. -/
def portStationOf (b : Byte) : Option PortStation :=
  match b.toNat with
  | 1 => some .form
  | 2 => some .load
  | 5 => some .inspect
  | 6 => some .aux
  | _ => none

/-! ## Codes -/

def byteOf (n : Nat) : Byte := BitVec.ofNat 8 n

def boolByte (b : Bool) : Byte := if b then 1 else 0

/-- R180. -/
def Status.code : Status → Byte
  | .ok => 0x00
  | .unknown => 0x01
  | .badCheck => 0x02
  | .badLength => 0x03
  | .badValue => 0x04
  | .busy => 0x05
  | .standby => 0x06
  | .wrongMode => 0x07
  | .denied => 0x08
  | .notFound => 0x09
  | .early => 0x0A
  | .tooLate => 0x0B
  | .already => 0x0C
  | .inUse => 0x0D
  | .notReady => 0x0E
  | .configInvalid => 0x0F
  | .recipeInvalid => 0x10

/-- R25. -/
def Verdict.code : Verdict → Byte
  | .none => 0
  | .pass => 1
  | .fail _ => 2
  | .late => 3

/-- R25: the detail, 0 when absent. -/
def Verdict.detail : Verdict → Byte
  | .fail d => d
  | .none => 0
  | .pass => 0
  | .late => 0

/-- R25. -/
def LoadVerdict.code : LoadVerdict → Byte
  | .none => 0
  | .pass _ => 1
  | .fail _ => 2
  | .late => 3

/-- R25: the count, 0 when absent. -/
def LoadVerdict.count : LoadVerdict → Byte
  | .pass c => c
  | .fail c => c
  | .none => 0
  | .late => 0

/-- R25. -/
def CardMark.code : CardMark → Byte
  | .none => 0
  | .present => 1
  | .missing => 2

/-- R25: the codes of a complete stroke's verdicts. -/
def SealVerdict.code : SealVerdict → Byte
  | .pass => 1
  | .under => 2
  | .over => 3
  | .short => 4
  | .hot => 5
  | .sensor => 6

/-- R25. -/
def SealMark.code : SealMark → Byte
  | .none => 0
  | .judged v _ => v.code
  | .aborted => 7
  | .double _ => 8

/-- R6, R114: the dose a Seal value carries. -/
def SealMark.dose : SealMark → Option Nat
  | .none => Option.none
  | .judged _ d => some d
  | .aborted => Option.none
  | .double d => some d

/-- R101: a stroke report's verdict, coded as the Seal field. -/
def ReportVerdict.code : ReportVerdict → Byte
  | .none => 0
  | .judged v => v.code
  | .aborted => 7

/-- R25: absent 0; set by port p, p + 1. -/
def holdCode : Option Port → Byte
  | none => 0
  | some p => byteOf (p.val + 1)

/-- R25. -/
def Kind.code : Kind → Byte
  | .product => 1
  | .void => 2
  | .untracked => 3

/-- R2. -/
def Record.kind : Record → Kind
  | .product _ => .product
  | .void => .void
  | .untracked => .untracked

/-- 6.1. -/
def Mode.code : Mode → Byte
  | .standby => 1
  | .waking => 2
  | .setup => 3
  | .run => 4
  | .drain => 5

/-- R151. -/
def ConfigState.code : ConfigState → Byte
  | .valid => 1
  | .invalid => 2
  | .unverified => 3

/-- R151. -/
def BlockState.code : BlockState → Byte
  | .empty => 0
  | .valid => 1
  | .invalid => 2
  | .unverified => 3

/-- R72. -/
def ReadyState.code : ReadyState → Byte
  | .noRecipe => 0
  | .unknown => 1
  | .fault => 2
  | .cold => 3
  | .hot => 4
  | .ready => 5

/-- R101. -/
def EndKind.code : EndKind → Byte
  | .complete => 1
  | .aborted => 2

/-- R114. -/
def Disposition.code : Disposition → Byte
  | .accepted => 1
  | .rejected => 2

/-- R108, R109. -/
def Cause.code : Cause → Byte
  | .held => 1
  | .form => 2
  | .load => 3
  | .card => 4
  | .heatSeal => 5
  | .inspect => 6
  | .aux => 7
  | .untracked => 8
  | .void => 9

/-- R182. -/
def RefSource.code : RefSource → Byte
  | .wake => 1
  | .stroke => 2

/-- R190. -/
def StoreResult.code : StoreResult → Byte
  | .ok => 1
  | .timeout => 2

/-- R181: a field mask; bit 6 is HOLD. -/
def FieldMask.code (m : FieldMask) : Byte :=
  boolByte m.form ||| boolByte m.load <<< 1 ||| boolByte m.inspect <<< 4 ||| boolByte m.aux <<< 5 |||
    boolByte m.hold <<< 6

/-- R181: a set of lanes, bit n for lane n. -/
def laneSetCode (q : Quad Bool) : Byte :=
  boolByte q.e0 ||| boolByte q.e1 <<< 1 ||| boolByte q.e2 <<< 2 ||| boolByte q.e3 <<< 3

/-- A number of two bytes; every number so carried lies below 65,536. -/
def nat16 (n : Nat) : List Byte := le16 (BitVec.ofNat 16 n)

/-- A number of three bytes: doses, at most 1,048,575. -/
def nat24 (n : Nat) : List Byte := le24 (BitVec.ofNat 24 n)

/-- A converter code in two bytes. -/
def rawBytes (c : RawCode) : List Byte := le16 (c.setWidth 16)

/-! ## Layouts -/

/-- R185: a pocket record, 19 bytes. -/
def Record.bytes : Record → List Byte
  | .product p =>
    [Kind.product.code] ++ le24 p.serial ++ [byteOf p.recipe.val,
      p.form.code, p.form.detail, p.load.code, p.load.count, p.card.code, p.heatSeal.code] ++
      nat24 (p.heatSeal.dose.getD 0) ++
      [p.inspect.code, p.inspect.detail, p.aux.code, p.aux.detail, holdCode p.hold]
  | .void => Kind.void.code :: List.replicate 18 0
  | .untracked => Kind.untracked.code :: List.replicate 18 0

/-- R28: the widths in bytes of a plane's elements, by selector; `none` for 0 and for 11 and above. -/
def planeWidth (selector : Byte) : Option Nat :=
  match selector.toNat with
  | 1 => some 1
  | 2 => some 3
  | 3 => some 1
  | 4 => some 2
  | 5 => some 2
  | 6 => some 1
  | 7 => some 4
  | 8 => some 2
  | 9 => some 2
  | 10 => some 1
  | _ => none

/-- R28, R182: where the record layout of R185 carries a plane's element. -/
def planeOffset (selector : Byte) : Nat :=
  match selector.toNat with
  | 1 => 0
  | 2 => 1
  | 3 => 4
  | 4 => 5
  | 5 => 7
  | 6 => 9
  | 7 => 10
  | 8 => 14
  | 9 => 16
  | _ => 18

/-- R28: one element of a plane, carried as its field is carried in the record. -/
def Record.planeElement (r : Record) (selector : Byte) (width : Nat) : List Byte :=
  (r.bytes.drop (planeOffset selector)).take width

/-- R186: a discharge log entry, 27 bytes. -/
def LogEntry.bytes (e : LogEntry) : List Byte :=
  le32 e.seq ++ le32 e.indexCount ++
    [byteOf e.lane.val, e.kind.code, boolByte e.serial.isSome ||| boolByte e.dose.isSome <<< 1] ++
    le24 (e.serial.getD 0) ++
    [byteOf ((e.recipe.map (·.val)).getD 0), e.disposition.code, byteOf e.causes.length] ++
    (e.causes.map Cause.code ++ List.replicate (7 - e.causes.length) 0) ++
    nat24 (e.dose.getD 0)

/-- R187: a stroke report lane entry, 15 bytes. -/
def LaneReport.bytes (e : LaneReport) : List Byte :=
  [boolByte e.serial.isSome ||| boolByte e.recipe.isSome <<< 1 ||| boolByte e.peak.isSome <<< 2] ++
    le24 (e.serial.getD 0) ++ [byteOf ((e.recipe.map (·.val)).getD 0)] ++
    nat16 e.rounds ++ nat16 e.dwell ++ nat24 e.dose ++ nat16 (e.peak.getD 0) ++ [e.verdict.code]

/-- R182: a stroke report, after the reply's first four bytes. -/
def StrokeReport.bytes (r : StrokeReport) : List Byte :=
  le16 r.number ++ [r.endKind.code, boolByte r.refOk, boolByte r.long, byteOf r.lanes.length] ++
    r.lanes.flatMap LaneReport.bytes

/-- R179: FLAGS, bit 0 attention pending and bit 1 a frame was lost. -/
def Response.flags (r : Response) : Byte := boolByte r.attention ||| boolByte r.lost <<< 1

/-- R179: LEN counts the bytes from CODE through the last data byte. -/
def Response.len (r : Response) : Byte := byteOf (r.data.length + 3)

/-- R179, R175: a response frame on the wire. -/
def Response.bytes (r : Response) : List Byte :=
  let covered := r.len :: r.code :: r.status.code :: r.flags :: r.data
  0x5A :: (covered ++ [crc8 covered])

end Sys2Proof.Machine
end

