-- ==== Sys2Proof/Machine/Acquire.lean ====
section
/-! DEFINITION. The Acquisition Unit: conversion (3.2), the reference check (3.3), idle sampling (3.4), the lane
ready state (3.5) and its changes under a new calibration (R75). -/

namespace Sys2Proof.Machine

/-! ## Conversion -/

/-- R63: codes of 8 or less, or 4087 or more, are fault samples on a TEMP channel. -/
def tempFault (c : RawCode) : Bool := decide (c.toNat ≤ 8) || decide (4087 ≤ c.toNat)

/-- R63: a platen temperature in tenths of a degree, clamped to 0..3000; none for a fault sample. -/
def convertTemp (cal : LaneCalibration) (c : RawCode) : Option Nat :=
  if tempFault c then none
  else some (min 3000 (((c.toNat * cal.span / 4096 : Nat) : Int) + cal.base).toNat)

/-- R64: the press force in tenths of a bar; none for a fault sample. -/
def convertPress (cal : Calibration) (c : RawCode) : Option Nat :=
  if 4087 ≤ c.toNat then none else some (c.toNat * cal.pspan / 4096)

/-- R65: the REF code differs from REF expected by no more than REF tolerance. -/
def refOk (cal : Calibration) (c : RawCode) : Bool :=
  decide (c.toNat ≤ cal.refExpected + cal.refTolerance) &&
    decide (cal.refExpected ≤ c.toNat + cal.refTolerance)

/-! ## The idle sample buffer -/

/-- R68: a good sample enters as the newest; of eight, the oldest leaves. -/
def pushSample (buffer : List Nat) (t : Nat) : List Nat :=
  if buffer.length < 8 then buffer ++ [t] else buffer.tail ++ [t]

/-- R68: the platen mean, when the buffer holds eight samples. -/
def platenMean (buffer : List Nat) : Option Nat :=
  if buffer.length < 8 then none else some (buffer.sum / 8)

/-- R68, R69: an idle sample of a lane. A good one enters the buffer and, when it brings the buffer to eight,
clears the fault mark; a fault sample empties the buffer and sets the mark. -/
def LaneSamples.sample (l : LaneSamples) (cal : LaneCalibration) (c : RawCode) : LaneSamples :=
  match convertTemp cal c with
  | some t =>
    let buffer := pushSample l.buffer t
    { l with buffer := buffer, faulted := l.faulted && decide (buffer.length < 8), lastRaw := some c }
  | none => { l with buffer := [], faulted := true, lastRaw := some c }

/-! ## The ready state -/

/-- R72: the ready state of a lane with the samples given, under the recipe given. -/
def readyUnder (recipe : Option Recipe) (l : LaneSamples) : ReadyState :=
  match recipe with
  | none => .noRecipe
  | some r =>
    if l.faulted then .fault
    else
      match platenMean l.buffer with
      | none => .unknown
      | some mean =>
        if mean < r.limits.tAct + r.margin then .cold
        else if r.limits.tMax < mean then .hot
        else .ready

/-- R72, R73: a lane's ready state as everything stands. -/
def State.readyNow (s : State) (lane : Lane) : ReadyState :=
  readyUnder ((s.assignedRecipe lane).map (·.2)) (s.acq.lanes.get lane)

/-- A lane's ready state replaced. -/
def State.setReady (s : State) (lane : Lane) (r : ReadyState) : State :=
  s.setAcq { s.acq with lanes := s.acq.lanes.modify lane fun l => { l with ready := r } }

/-- R73, R74: a lane's ready state evaluated. READY_CHANGE goes on the SEAL report port when the state
changes, and also when `added` says that the lane counts as changed. -/
def State.evaluateLane (s : State) (added : Bool) (lane : Lane) : State :=
  let new := s.readyNow lane
  let changed := added || new != (s.acq.lanes.get lane).ready
  let s := s.setReady lane new
  if changed then s.raiseAt s.verdict.stations.heatSeal.port .readyChange else s

/-- R73, R74: every lane below N evaluated, in lane order; the lanes at or above `before` count as
changed. -/
def State.evaluateLanes (s : State) (before : Nat) : State :=
  (lanesBelow s.web.lanes).foldl (fun s n => s.evaluateLane (decide (before ≤ n.val)) n) s

/-! ## The idle pass -/

/-- The idle pass timer started at `now`: the first pass falls due 50 ms later (R67). -/
def State.startIdle (s : State) (now : Time) : State := s.setAcq { s.acq with idleDue := some (now + ms 50) }

/-- The idle pass timer stopped (R70, R71). -/
def State.stopIdle (s : State) : State := s.setAcq { s.acq with idleDue := none }

/-- R67: one lane's part of an idle pass: its channel is converted, the sample taken, the ready state
evaluated. -/
def State.sampleLane (s : State) (temps : Quad RawCode) (lane : Lane) : State :=
  let cal := s.acq.calibration.lanes.get lane
  let s := s.setAcq
    { s.acq with lanes := s.acq.lanes.modify lane fun l => l.sample cal (temps.get lane) }
  s.evaluateLane false lane

/-- R67: an idle pass over the lanes below N. -/
def State.idlePass (s : State) (temps : Quad RawCode) : State :=
  (lanesBelow s.web.lanes).foldl (fun s n => s.sampleLane temps n) s

/-- R71: every buffer emptied and every fault mark cleared. -/
def Acquisition.emptyBuffers (a : Acquisition) : Acquisition :=
  { a with lanes := a.lanes.map fun l => { l with buffer := [], faulted := false } }

/-- R75: buffers, marks, states and raw codes are held for the lanes of the geometry in force. -/
def Acquisition.holdLanes (a : Acquisition) (lanes : Nat) : Acquisition :=
  { a with lanes := a.lanes.restrict lanes (LaneSamples.fresh .noRecipe) }

/-- A REF conversion judged and made the last reference result (R65, R66). -/
def State.judgeReference (s : State) (c : RawCode) (source : RefSource) : State :=
  s.setAcq { s.acq with reference := some { code := c, ok := refOk s.acq.calibration c, source := source } }

/-- R61: the last raw codes of a round: PRESS and every converted TEMP channel. -/
def Acquisition.roundCodes (a : Acquisition) (lanes : Nat) (press : RawCode) (temps : Quad RawCode) :
    Acquisition :=
  { a with
    pressRaw := some press
    lanes := Quad.ofFn fun n =>
      if n.val < lanes then { a.lanes.get n with lastRaw := some (temps.get n) } else a.lanes.get n }

end Sys2Proof.Machine
end

