-- ==== Sys2Proof/Machine/Strokes.lean ====
section
/-! DEFINITION. The Stroke Evaluator: start (4.2), rounds (4.3), verdict (4.4), writing by serial (4.5), abort
(4.6) and report (4.7). -/

namespace Sys2Proof.Machine

/-- The stroke in flight, if any (R79). -/
def StrokePhase.stroke? : StrokePhase → Option Stroke
  | .idle => none
  | .sampling _ k => some k
  | .capped k => some k

/-! ## Start -/

/-- A lane of a stroke with the serial and recipe captured, before the first round (R86). -/
def StrokeLane.captured (serial : Option Serial) (used : Option (RecipeSlot × SealLimits)) : StrokeLane :=
  { serial := serial, used := used, faulted := false, dwell := 0, dose := 0, peak := none }

/-- R83: the record at the SEAL slot of a lane, when SEAL is enabled and it is PRODUCT. -/
def State.sealProduct (s : State) (lane : Lane) : Option Product :=
  let e := s.verdict.stations.heatSeal
  if e.enabled then ((s.web.rows.get lane)[e.slot]?).bind Record.product? else none

/-- R83, R84: what a stroke start captures in a lane. A PRODUCT record gives its serial and its own recipe;
otherwise the lane's assigned recipe is used. A recipe that is not VALID is not used. -/
def State.captureLane (s : State) (lane : Lane) : StrokeLane :=
  match s.sealProduct lane with
  | some p => StrokeLane.captured (some p.serial) ((s.store.recipe p.recipe).map fun r => (p.recipe, r.limits))
  | none => StrokeLane.captured none ((s.assignedRecipe lane).map fun x => (x.1, x.2.limits))

/-- R82, R83, R85, R86: a stroke starts: the number advances, the lanes are captured, REF is judged, the idle
pass timer stops, and the first round falls due 2 ms later. -/
def State.startStroke (s : State) (now : Time) (ref : RawCode) : State :=
  let number := s.stroke.number + 1
  let stroke : Stroke :=
    { number := number
      laneCount := s.web.lanes
      lanes := Quad.ofFn fun n =>
        if n.val < s.web.lanes then s.captureLane n else StrokeLane.captured none none
      refOk := refOk s.acq.calibration ref
      long := false
      rounds := 0 }
  ((s.judgeReference ref .stroke).stopIdle).setStroke
    { s.stroke with phase := .sampling (now + ms 2) stroke, number := number }

/-! ## Rounds -/

/-- The largest dose (R90). -/
def doseLimit : Nat := 1048575

/-- R90: the excess of a contact round. -/
def excess (lim : SealLimits) (t : Nat) : Nat := min lim.eCap (t - lim.tAct)

/-- R88, R89, R90: a round added into a lane. A fault on either channel sets the fault mark and adds nothing
else; a good round raises the peak and, in contact, adds to dwell and dose. A lane that is not evaluated
takes no part. -/
def StrokeLane.addRound (l : StrokeLane) (press temp : Option Nat) : StrokeLane :=
  match l.used with
  | none => l
  | some (_, lim) =>
    match press, temp with
    | some p, some t =>
      let l := { l with peak := some (max t (l.peak.getD t)) }
      if lim.pMin ≤ p then
        { l with dwell := l.dwell + 1, dose := min doseLimit (l.dose + excess lim t) }
      else l
    | _, _ => { l with faulted := true }

/-- R61, R92: the temperature a round hands a lane: none for a fault sample, and none for a lane at or above
the N in force when the round is taken. -/
def Acquisition.roundTemp (a : Acquisition) (lanes : Nat) (temps : Quad RawCode) (lane : Lane) : Option Nat :=
  if lane.val < lanes then convertTemp (a.calibration.lanes.get lane) (temps.get lane) else none

/-- R87: a round added into a stroke: the round count and every lane. -/
def Stroke.addRound (k : Stroke) (press : Option Nat) (temps : Lane → Option Nat) : Stroke :=
  { k with
    rounds := k.rounds + 1
    lanes := Quad.ofFn fun n => (k.lanes.get n).addRound press (temps n) }

/-- The most rounds a stroke takes (R91). -/
def roundLimit : Nat := 2048

/-- R91: after 2048 rounds the LONG mark is set and the evaluator is CAPPED; before, the next round falls
due. -/
def capOrContinue (next : Time) (k : Stroke) : StrokePhase :=
  if roundLimit ≤ k.rounds then .capped { k with long := true } else .sampling next k

/-- R61, R87: a round of the stroke given, taken whole: the raw codes and the stroke. -/
def State.strokeRound (s : State) (due : Time) (k : Stroke) (press : RawCode) (temps : Quad RawCode) : State :=
  let k := k.addRound (convertPress s.acq.calibration press) (s.acq.roundTemp s.web.lanes temps)
  (s.setAcq (s.acq.roundCodes s.web.lanes press temps)).setStroke
    { s.stroke with phase := capOrContinue (due + ms 2) k }

/-! ## Verdict -/

/-- R93: a lane evaluated under the limits given, judged at a complete end, in the fixed order. -/
def judgeLane (k : Stroke) (l : StrokeLane) (lim : SealLimits) : SealVerdict :=
  if l.faulted || !k.refOk then .sensor
  else if (l.peak.any fun t => decide (lim.tMax < t)) then .hot
  else if l.dwell < lim.nMin then .short
  else if k.long || decide (lim.dMax < l.dose) then .over
  else if l.dose < lim.dMin then .under
  else .pass

/-- R93: the report's verdict at a complete end. -/
def Stroke.completeVerdict (k : Stroke) (l : StrokeLane) : ReportVerdict :=
  match l.used with
  | some (_, lim) => .judged (judgeLane k l lim)
  | none => .none

/-- R98: the report's verdict at an abort. -/
def Stroke.abortVerdict (_k : Stroke) (l : StrokeLane) : ReportVerdict :=
  match l.used with
  | some _ => .aborted
  | none => .none

/-! ## Writing by serial -/

/-- The Seal value a lane's verdict writes: a complete verdict with the lane's dose (R95), ABORTED with none
(R98), and nothing for NONE. -/
def ReportVerdict.mark (v : ReportVerdict) (dose : Nat) : Option SealMark :=
  match v with
  | .none => Option.none
  | .judged v => some (.judged v dose)
  | .aborted => some .aborted

/-- R6, R8, R95: a Seal value written into a Seal field. A field that holds a value becomes DOUBLE, with the
dose it carried, 0 for ABORTED. -/
def SealMark.struck (old new : SealMark) : SealMark :=
  match old with
  | .none => new
  | .judged _ d => .double d
  | .aborted => .double 0
  | .double d => .double d

/-- R84, R95, R96: one lane's write. Only a target, which has both a captured serial and a recipe used,
writes; a serial not on the track is skipped. -/
def writeTarget (rows : Quad (List Record)) (l : StrokeLane) (v : ReportVerdict) : Quad (List Record) :=
  match l.serial, v.mark l.dose with
  | some n, some m => changeSerial rows n fun p => { p with heatSeal := p.heatSeal.struck m }
  | _, _ => rows

/-- The writes of a stroke's lanes, in lane order. -/
def Stroke.writeTargets (k : Stroke) (verdict : StrokeLane → ReportVerdict) (rows : Quad (List Record)) :
    Quad (List Record) :=
  (k.lanes.take k.laneCount).foldl (fun rows l => writeTarget rows l (verdict l)) rows

/-! ## Report -/

/-- R101: a lane's entry. A lane that is not evaluated is reported with 0 rounds. -/
def Stroke.laneReport (k : Stroke) (verdict : StrokeLane → ReportVerdict) (l : StrokeLane) : LaneReport :=
  { serial := l.serial
    recipe := l.used.map (·.1)
    rounds := if l.used.isSome then k.rounds else 0
    dwell := l.dwell
    dose := l.dose
    peak := l.peak
    verdict := verdict l }

/-- R101: a stroke's report. -/
def Stroke.report (k : Stroke) (kind : EndKind) (verdict : StrokeLane → ReportVerdict) : StrokeReport :=
  { number := k.number
    endKind := kind
    refOk := k.refOk
    long := k.long
    lanes := (k.lanes.take k.laneCount).map (k.laneReport verdict) }

/-- R101, R102: a report published: the evaluator becomes IDLE, the idle pass timer restarts where the mode
samples, and STROKE goes on the SEAL report port. -/
def State.publish (s : State) (now : Time) (r : StrokeReport) : State :=
  let s := s.setStroke { s.stroke with phase := .idle, report := some r }
  let s := if s.mode.mode.active then s.startIdle now else s
  s.raiseAt s.verdict.stations.heatSeal.port .stroke

/-- A stroke ended: its verdicts written, its report published. -/
def State.endStroke (s : State) (now : Time) (k : Stroke) (kind : EndKind)
    (verdict : StrokeLane → ReportVerdict) : State :=
  (s.setRows (k.writeTargets verdict s.web.rows)).publish now (k.report kind verdict)

/-- R81: a falling SEAL edge ends the stroke in flight; in IDLE it is ignored. -/
def State.completeStroke (s : State) (now : Time) : State :=
  match s.stroke.phase.stroke? with
  | some k => s.endStroke now k .complete k.completeVerdict
  | none => s

/-- R98, R99: the stroke in flight is aborted; in IDLE nothing happens. -/
def State.abortStroke (s : State) (now : Time) : State :=
  match s.stroke.phase.stroke? with
  | some k => s.endStroke now k .aborted k.abortVerdict
  | none => s

end Sys2Proof.Machine
end

