-- ==== Sys2Proof/Machine/Track.lean ====
section
/-! DEFINITION. The Web Track: qualification of INDEX edges (1.5), the track shift and entry records (1.6), and the
requests that read the track (1.8). -/

namespace Sys2Proof.Machine

/-- A refusal or failure: a status with no data. -/
def Reply.refuse (st : Status) : Reply := { status := st, data := [] }

/-- An OK reply. -/
def Reply.ok (data : List Byte) : Reply := { status := .ok, data := data }

/-! ## Index edges and the shift -/

/-- R14: an edge is taken when the minimum index interval has passed since the last taken edge, or when there
is none. -/
def WebTrack.takesEdge (w : WebTrack) (now : Time) : Bool :=
  match w.lastTaken with
  | none => true
  | some t => decide (t + ms w.minInterval ≤ now)

/-- R13, R14: what every taken edge does: the index count advances and the edge becomes the last taken. -/
def WebTrack.countEdge (w : WebTrack) (now : Time) : WebTrack :=
  { w with indexCount := w.indexCount + 1, lastTaken := some now }

/-- R11: the counter after a serial is given; after 16,777,215 it goes to 1. -/
def serialAfter (n : Serial) : Serial := if n = 0xFFFFFF then 1 else n + 1

/-- R19: a lane's entry record and the serial counter after it. In RUN a masked lane gets a PRODUCT record
under its assignment (a masked lane always has one, R124; assumption 16), every other lane a VOID. -/
def entryRecord (m : ModeController) (lane : Lane) (n : Serial) : Record × Serial :=
  if m.mode = .run ∧ m.laneMask.get lane = true then
    match m.assignments.get lane with
    | some recipe => (.product (Product.fresh n recipe), serialAfter n)
    | none => (.void, n)
  else (.void, n)

/-- R18: one lane shifted, with the serial counter threaded through: the record at slot L-1 leaves, every
other moves one slot on, and the entry record comes in at slot 0. -/
def shiftRow (w : WebTrack) (m : ModeController) (lane : Lane) (n : Serial) : List Record × Serial :=
  if lane.val < w.lanes then
    let e := entryRecord m lane n
    (e.1 :: (w.rows.get lane).dropLast, e.2)
  else (w.rows.get lane, n)

/-- R18, R11: the track shift, the lanes served in lane order. -/
def WebTrack.shift (w : WebTrack) (m : ModeController) : WebTrack :=
  let r0 := shiftRow w m 0 w.nextSerial
  let r1 := shiftRow w m 1 r0.2
  let r2 := shiftRow w m 2 r1.2
  let r3 := shiftRow w m 3 r2.2
  { w with rows := ⟨r0.1, r1.1, r2.1, r3.1⟩, nextSerial := r3.2 }

/-! ## Reading the track -/

/-- Read Record (R26): BUSY in WAKING (1.8); the lane is checked first, then the slot. -/
def takeReadRecord (lane slot : Byte) (s : State) : State × Reply :=
  if s.mode.mode = .waking then (s, Reply.refuse .busy)
  else
    match laneOf s.web.lanes lane with
    | none => (s, Reply.refuse .badValue)
    | some n =>
      match (s.web.rows.get n)[slot.toNat]? with
      | none => (s, Reply.refuse .badValue)
      | some r => (s, Reply.ok r.bytes)

/-- Find Serial (R27). -/
def takeFindSerial (serial : Serial) (s : State) : State × Reply :=
  if s.mode.mode = .waking then (s, Reply.refuse .busy)
  else if serial = 0 then (s, Reply.refuse .badValue)
  else
    match findOnTrack s.web.rows serial with
    | none => (s, Reply.refuse .notFound)
    | some (lane, slot, p) =>
      (s, Reply.ok ([byteOf lane.val, byteOf slot] ++ (Record.product p).bytes))

/-- Read Plane (R28): the lane is checked first, then the selector. -/
def takeReadPlane (lane selector : Byte) (s : State) : State × Reply :=
  if s.mode.mode = .waking then (s, Reply.refuse .busy)
  else
    match laneOf s.web.lanes lane with
    | none => (s, Reply.refuse .badValue)
    | some n =>
      match planeWidth selector with
      | none => (s, Reply.refuse .badValue)
      | some width =>
        let row := s.web.rows.get n
        (s, Reply.ok ([lane, selector, byteOf row.length] ++ row.flatMap fun r => r.planeElement selector width))

end Sys2Proof.Machine
end

