-- ==== Sys2Proof/Machine/Verdicts.lean ====
section
/-! DEFINITION. The Verdict Unit: window closing, arrivals and card sampling at an index (2.2, 2.4), Post Verdict
(2.3), holds (2.5) and field masks (2.6). -/

namespace Sys2Proof.Machine

/-! ## A station's field of a record -/

/-- The station's field holds NONE. -/
def Product.unwritten (p : Product) : PortStation → Bool
  | .form => p.form == .none
  | .load => p.load == .none
  | .inspect => p.inspect == .none
  | .aux => p.aux == .none

/-- R38: the station's field made LATE. -/
def Product.makeLate (p : Product) : PortStation → Product
  | .form => { p with form := .late }
  | .load => { p with load := .late }
  | .inspect => { p with inspect := .late }
  | .aux => { p with aux := .late }

/-- R46, R47, R48, R49: the station's field code and its detail or count, as a post's reply carries them. -/
def Product.fieldBytes (p : Product) : PortStation → List Byte
  | .form => [p.form.code, p.form.detail]
  | .load => [p.load.code, p.load.count]
  | .inspect => [p.inspect.code, p.inspect.detail]
  | .aux => [p.aux.code, p.aux.detail]

/-! ## Index work -/

/-- R38: the record whose window closes on a NONE field. -/
def closesLate (st : PortStation) (r : Record) : Bool :=
  match r.product? with
  | some p => p.unwritten st
  | none => false

/-- R8, R38: LATE written at window closing, where the field still holds NONE. -/
def Record.close (st : PortStation) (r : Record) : Record :=
  r.onProduct fun p => if p.unwritten st then p.makeLate st else p

/-- The record at a slot of a lane has the property. -/
def atSlot (f : Record → Bool) (slot : Nat) (row : List Record) : Bool := row[slot]?.any f

/-- R38: a station's windows closed at an index, with LATE on its report port. -/
def State.closeWindow (s : State) (st : PortStation) : State :=
  let e := s.verdict.stations.entry st
  let slot := e.slot + e.window
  if e.enabled then
    let late := s.web.rows.any (atSlot (closesLate st) slot)
    let s := s.setRows (s.web.rows.map fun row => row.modify slot (Record.close st))
    if late then s.raiseAt e.port .late else s
  else s

/-- R39: ARRIVAL on a station's report port, when the index brings a PRODUCT record to its slot. -/
def State.arrive (s : State) (st : PortStation) : State :=
  let e := s.verdict.stations.entry st
  if e.enabled && s.web.rows.any (atSlot Record.isProduct e.slot) then s.raiseAt e.port .arrival else s

/-- R8, R51: the CARD level written into a record whose Card field holds NONE. -/
def Record.sampleCard (high : Bool) (r : Record) : Record :=
  r.onProduct fun p =>
    if p.card = .none then { p with card := if high then .present else .missing } else p

/-- R51: the CARD lines sampled for the records brought to the CARD slot. -/
def State.sampleCards (s : State) (cards : Quad Bool) : State :=
  let e := s.verdict.stations.card
  if e.enabled then
    s.setRows (Quad.zipWith (fun high row => row.modify e.slot (Record.sampleCard high)) cards s.web.rows)
  else s

/-- The windowed stations in code order. -/
def portStations : List PortStation := [.form, .load, .inspect, .aux]

/-- R37: the Verdict Unit's work for a handed-on index. -/
def State.verdictIndex (s : State) (cards : Quad Bool) : State :=
  let s := portStations.foldl State.closeWindow s
  let s := portStations.foldl State.arrive s
  s.sampleCards cards

/-! ## Post Verdict -/

/-- R43: the value and detail a station takes. -/
def postValueOk (st : PortStation) (value detail : Byte) : Bool :=
  match st with
  | .load => decide (value.toNat < 16) && detail == 0
  | .form => (value == 1 && detail == 0) || (value == 2 && detail != 0)
  | .inspect => (value == 1 && detail == 0) || (value == 2 && detail != 0)
  | .aux => (value == 1 && detail == 0) || (value == 2 && detail != 0)

/-- R48: the verdict a FORM, INSPECT or AUX post stands for. -/
def postedVerdict (value detail : Byte) : Verdict := if value = 1 then .pass else .fail detail

/-- R49: a posted count judged against Items of the record's own recipe; FAIL when that is not VALID. -/
def postedLoad (recipe : Option Recipe) (count : Byte) : LoadVerdict :=
  match recipe with
  | some r => if count.toNat = r.items then .pass count else .fail count
  | none => .fail count

/-- R48, R49: the posted verdict written into the station's field. -/
def Product.post (p : Product) (recipe : Option Recipe) (st : PortStation) (value detail : Byte) : Product :=
  match st with
  | .form => { p with form := postedVerdict value detail }
  | .load => { p with load := postedLoad recipe value }
  | .inspect => { p with inspect := postedVerdict value detail }
  | .aux => { p with aux := postedVerdict value detail }

/-- R46..R49: the three bytes of a post's reply. -/
def postData (slot : Nat) (p : Product) (st : PortStation) : List Byte := byteOf slot :: p.fieldBytes st

/-- R42, checks 5 to 7, and the write: a post met by the record it names. -/
def postRecord (s : State) (st : PortStation) (lane : Lane) (slot : Nat) (p : Product) (value detail : Byte) :
    State × Reply :=
  let e := s.verdict.stations.entry st
  if slot < e.slot then (s, { status := .early, data := postData slot p st })
  else if e.slot + e.window ≤ slot then (s, { status := .tooLate, data := postData slot p st })
  else if !p.unwritten st then (s, { status := .already, data := postData slot p st })
  else
    let write := fun q : Product => q.post (s.store.recipe q.recipe) st value detail
    (s.setRows (changeAt s.web.rows lane slot write), Reply.ok (postData slot (write p) st))

/-- R42, R43: the second check of Post Verdict; the lane and station it lets through. -/
def postTarget (s : State) (station lane : Byte) (serial : Serial) (value detail : Byte) :
    Option (PortStation × Lane) :=
  match portStationOf station, laneOf s.web.lanes lane with
  | some st, some n =>
    if (s.verdict.stations.entry st).enabled && serial != 0 && postValueOk st value detail then some (st, n)
    else none
  | _, _ => none

/-- Post Verdict (R42): the checks in their order, and the write. -/
def takePostVerdict (port : Port) (station lane : Byte) (serial : Serial) (value detail : Byte) (s : State) :
    State × Reply :=
  if s.mode.mode = .waking then (s, Reply.refuse .busy)
  else
    match postTarget s station lane serial value detail with
    | none => (s, Reply.refuse .badValue)
    | some (st, n) =>
      if !((s.verdict.masks.get port).get n).permits st then (s, Reply.refuse .denied)
      else
        match findInRow serial (s.web.rows.get n) with
        | none => (s, Reply.refuse .notFound)
        | some (slot, p) => postRecord s st n slot p value detail

/-! ## Holds -/

/-- R53, R54: the two bytes of a hold reply. -/
def holdData (slot : Nat) (hold : Option Port) : List Byte := [byteOf slot, holdCode hold]

/-- R53, R54: the checks up to and including the gate slot check, shared by Set Hold and Clear Hold, which
then act on the record found. -/
def holdRequest (port : Port) (lane : Byte) (serial : Serial) (s : State)
    (act : Lane → Nat → Product → State × Reply) : State × Reply :=
  if s.mode.mode = .waking then (s, Reply.refuse .busy)
  else
    match laneOf s.web.lanes lane with
    | none => (s, Reply.refuse .badValue)
    | some n =>
      if serial = 0 then (s, Reply.refuse .badValue)
      else if !((s.verdict.masks.get port).get n).hold then (s, Reply.refuse .denied)
      else
        match findInRow serial (s.web.rows.get n) with
        | none => (s, Reply.refuse .notFound)
        | some (slot, p) =>
          if s.web.length ≤ slot + 1 then (s, { status := .tooLate, data := holdData slot p.hold })
          else act n slot p

/-- Set Hold (R53). -/
def takeSetHold (port : Port) (lane : Byte) (serial : Serial) (s : State) : State × Reply :=
  holdRequest port lane serial s fun n slot p =>
    if p.hold.isSome then (s, { status := .already, data := holdData slot p.hold })
    else
      (s.setRows (changeAt s.web.rows n slot fun q => { q with hold := some port }),
        Reply.ok (holdData slot (some port)))

/-- Clear Hold (R54). -/
def takeClearHold (port : Port) (lane : Byte) (serial : Serial) (s : State) : State × Reply :=
  holdRequest port lane serial s fun n slot p =>
    if p.hold.isNone then (s, { status := .already, data := holdData slot p.hold })
    else
      (s.setRows (changeAt s.web.rows n slot fun q => { q with hold := none }),
        Reply.ok (holdData slot none))

/-! ## Field masks -/

/-- Set Port Mask (R57). -/
def takeSetPortMask (target lane mask : Byte) (s : State) : State × Reply :=
  if s.mode.mode = .waking then (s, Reply.refuse .busy)
  else if s.mode.mode ≠ .setup then (s, Reply.refuse .wrongMode)
  else
    match portOf target with
    | none => (s, Reply.refuse .badValue)
    | some p =>
      match laneOf s.web.lanes lane with
      | none => (s, Reply.refuse .badValue)
      | some n =>
        if !maskByteOk mask then (s, Reply.refuse .badValue)
        else
          (s.setVerdict
            { s.verdict with masks := s.verdict.masks.modify p fun q => q.set n (fieldMaskOf mask) },
            Reply.ok [])

/-- Read Port Mask (R58), taken in every mode. -/
def takeReadPortMask (target : Byte) (s : State) : State × Reply :=
  match portOf target with
  | none => (s, Reply.refuse .badValue)
  | some p =>
    (s, Reply.ok (byteOf s.web.lanes :: ((s.verdict.masks.get p).take s.web.lanes).map FieldMask.code))

end Sys2Proof.Machine
end

