-- ==== Sys2Proof/Machine/Discharge.lean ====
section
/-! DEFINITION. The Discharge Gate: decisions (5.1), REJECT pulses (5.2), the discharge log (5.3) and its reading
(5.4). -/

namespace Sys2Proof.Machine

/-! ## The decision -/

/-- R106: the Required set a record is judged by: its own recipe's, or all six fields when that recipe's block
is not VALID. -/
def requiredSet (r : RecipeStore) (p : Product) : StationSet :=
  match r.recipe p.recipe with
  | some recipe => recipe.required
  | none => ⟨true, true, true, true, true, true⟩

/-- A cause, when its condition holds. -/
def causeIf (b : Bool) (c : Cause) : List Cause := if b then [c] else []

/-- A Seal field holds PASS. -/
def SealMark.isPass : SealMark → Bool
  | .judged .pass _ => true
  | .judged .under _ => false
  | .judged .over _ => false
  | .judged .short _ => false
  | .judged .hot _ => false
  | .judged .sensor _ => false
  | .none => false
  | .aborted => false
  | .double _ => false

/-- A Load field holds PASS. -/
def LoadVerdict.isPass : LoadVerdict → Bool
  | .pass _ => true
  | .fail _ => false
  | .none => false
  | .late => false

/-- R106, R107, R108: the conditions a PRODUCT record fails, in the fixed order. A field is required when its
station is enabled and it is in the Required set. -/
def productCauses (m : StationMap) (req : StationSet) (p : Product) : List Cause :=
  causeIf p.hold.isSome .held ++
  causeIf (m.form.enabled && req.form && p.form != .pass) .form ++
  causeIf (m.load.enabled && req.load && !p.load.isPass) .load ++
  causeIf (m.card.enabled && req.card && p.card != .present) .card ++
  causeIf (m.heatSeal.enabled && req.heatSeal && !p.heatSeal.isPass) .heatSeal ++
  causeIf (m.inspect.enabled && req.inspect && p.inspect != .pass) .inspect ++
  causeIf (m.aux.enabled && req.aux && p.aux != .pass) .aux

/-- R108, R109: the cause list of a record. -/
def causesOf (m : StationMap) (r : RecipeStore) : Record → List Cause
  | .product p => productCauses m (requiredSet r p) p
  | .void => [.void]
  | .untracked => [.untracked]

/-- R107: ACCEPTED when no condition fails. -/
def dispositionOf (causes : List Cause) : Disposition :=
  match causes with
  | [] => .accepted
  | _ :: _ => .rejected

/-! ## The log -/

/-- R114: the entry of a decision. -/
def logEntryOf (seq indexCount : BitVec 32) (lane : Lane) (r : Record) (causes : List Cause) : LogEntry where
  seq := seq
  indexCount := indexCount
  lane := lane
  kind := r.kind
  serial := r.product?.map fun p => p.serial
  recipe := r.product?.map fun p => p.recipe
  disposition := dispositionOf causes
  causes := causes
  dose := r.product?.bind fun p => p.heatSeal.dose

/-- R115: an entry appended; of 64, the oldest leaves. -/
def appendEntry (log : List LogEntry) (e : LogEntry) : List LogEntry :=
  if log.length < 64 then log ++ [e] else log.tail ++ [e]

/-! ## Index work -/

/-- R111, R114: the decision on one lane's record at the gate slot: a pulse when it is REJECTED, and a log
entry. -/
def State.decideLane (now : Time) (s : State) (lane : Lane) : State :=
  match (s.web.rows.get lane)[s.web.length - 1]? with
  | none => s
  | some r =>
    let causes := causesOf s.verdict.stations s.store r
    let pulse :=
      match dispositionOf causes with
      | .rejected => some (now + ms s.gate.rejectWidth)
      | .accepted => s.gate.pulses.get lane
    s.setGate
      { s.gate with
        pulses := s.gate.pulses.set lane pulse
        log := appendEntry s.gate.log (logEntryOf s.gate.nextSeq s.web.indexCount lane r causes)
        nextSeq := s.gate.nextSeq + 1 }

/-- R112: a handed-on index ends every running pulse on every lane. -/
def State.endPulses (s : State) : State := s.setGate { s.gate with pulses := Quad.fill none }

/-- R105, R112, R117: the gate's work for a handed-on index. -/
def State.gateIndex (s : State) (now : Time) : State :=
  let s := (lanesBelow s.web.lanes).foldl (State.decideLane now) s.endPulses
  s.raiseAt s.gate.reportPort .gate

/-- R112: the lane's pulse ended when its end time has come. -/
def State.expirePulse (s : State) (now : Time) (lane : Lane) : State :=
  match s.gate.pulses.get lane with
  | some t => if t ≤ now then s.setGate { s.gate with pulses := s.gate.pulses.set lane none } else s
  | none => s

/-! ## Reading the log -/

/-- R115: the oldest held sequence, the next sequence number less the number of entries held. -/
def Gate.oldest (g : Gate) : BitVec 32 := g.nextSeq - BitVec.ofNat 32 g.log.length

/-- R119: the gap mark and the entries a `first` and a count are answered with. -/
def Gate.readLog (g : Gate) (first : BitVec 32) (count : Nat) : Bool × List LogEntry :=
  let d := (g.nextSeq - first).toNat
  let h := g.log.length
  if d = 0 then (false, [])
  else if d ≤ h then (false, (g.log.drop (h - d)).take count)
  else if 2147483648 ≤ d then (false, [])
  else (true, g.log.take count)

/-- Read Discharge Log (R118). -/
def takeReadDischargeLog (first : BitVec 32) (count : Byte) (s : State) : State × Reply :=
  if s.mode.mode = .waking then (s, Reply.refuse .busy)
  else if !within 1 8 count.toNat then (s, Reply.refuse .badValue)
  else
    let r := s.gate.readLog first count.toNat
    (s, Reply.ok ([boolByte r.1] ++ le32 s.gate.oldest ++ le32 s.gate.nextSeq ++ [byteOf r.2.length] ++
      r.2.flatMap LogEntry.bytes))

end Sys2Proof.Machine
end

