-- ==== Sys2Proof/Machine/Store.lean ====
section
/-! DEFINITION. The Recipe Store: verification (R160), what it supplies at a reset (R159), the write engine (7.5),
settings coming into force (R156, R168), and the requests that read and write blocks (7.5, 7.7). -/

namespace Sys2Proof.Machine

/-! ## Blocks -/

/-- R158, R160: the result of verifying a block, whose contents pass or fail the range checks. -/
def Block.verified {α : Type} (rangeOk : α → Bool) (b : Block α) : BlockState :=
  match b.contents with
  | none => if b.openMark then .invalid else .empty
  | some c => if b.openMark || !b.checkMatches || !rangeOk c then .invalid else .valid

/-- A block in the state its verification gives. -/
def Block.verify {α : Type} (rangeOk : α → Bool) (b : Block α) : Block α := { b with state := b.verified rangeOk }

/-- R161: the open mark set at the acceptance of a write. -/
def Block.accept {α : Type} (b : Block α) : Block α := { b with openMark := true }

/-- R165: a block whose write has completed. -/
def Block.written {α : Type} (c : α) : Block α :=
  { contents := some c, checkMatches := true, openMark := false, state := .valid }

/-- R166: a block whose write has been abandoned; its open mark stays. -/
def Block.abandoned {α : Type} (b : Block α) : Block α := { b with state := .invalid }

/-- R158: a block after any reset. -/
def Block.afterReset {α : Type} (b : Block α) : Block α := { b with state := .unverified }

/-- R160: all seventeen blocks verified. -/
def RecipeStore.verifyAll (r : RecipeStore) : RecipeStore :=
  { r with
    config := r.config.verify fun c => (configFault c).isNone
    recipes := r.recipes.map fun b => b.verify fun c => (recipeFault c).isNone }

/-- R159: the configuration supplied at a reset: the block's contents when they pass every check, whether or
not their check value matches; else the factory default settings. -/
def RecipeStore.supplied (r : RecipeStore) : Configuration :=
  match r.config.contents with
  | some c => if (configFault c).isNone then configurationOf c else factoryDefault
  | none => factoryDefault

/-! ## Settings coming into force -/

/-- R156: the settings that are loaded at a reset, at the turn to factory default settings, and when a written
configuration takes effect alike: the minimum index interval, the station map, the field masks, the REJECT
pulse width, the gate report port, the lane mask, the assignments, the calibration and the store write
deadline. Masks and assignments of lanes at or above N are dropped (R59, R150). -/
def State.loadSettings (s : State) (c : Configuration) : State :=
  { s with
    web := { s.web with minInterval := c.minInterval }
    verdict := { stations := c.stations, masks := c.masks.map fun q => q.restrict c.lanes FieldMask.empty }
    acq := { s.acq with calibration := c.calibration }
    gate := { s.gate with rejectWidth := c.rejectWidth, reportPort := c.gatePort }
    mode :=
      { s.mode with
        laneMask := c.laneMask.restrict c.lanes false
        assignments := c.assignments.restrict c.lanes none }
    store := { s.store with deadline := c.deadline } }

/-- R168: a configuration takes effect: settings loaded, the track lost at the new geometry, buffers emptied
and lanes held for the new geometry, the configuration state VALID, every lane evaluated. -/
def State.takeEffect (s : State) (c : Configuration) : State :=
  let before := s.web.lanes
  let s := (s.loadSettings c).loseTrackAt c.lanes c.length
  let s := s.setAcq (s.acq.emptyBuffers.holdLanes c.lanes)
  let s := s.setMode { s.mode with configState := .valid }
  s.evaluateLanes before

/-! ## The write engine -/

/-- R161: the nominal time of a write, before which its completion is not taken, in milliseconds. -/
def WriteTarget.nominal : WriteTarget → Nat
  | .configuration _ => 12
  | .recipe _ _ => 6

/-- R161: a write accepted: the open mark set, the block, port and contents recorded, the deadline timer
started at the store write deadline in force. -/
def State.acceptWrite (s : State) (now : Time) (port : Port) (target : WriteTarget) : State :=
  let r := s.store
  let r :=
    match target with
    | .configuration _ => { r with config := r.config.accept }
    | .recipe slot _ => { r with recipes := r.recipes.set slot (r.recipes.get slot).accept }
  s.setStore
    { r with engine := some { target := target, port := port, accepted := now, due := now + ms r.deadline } }

/-- R165: the write's block, completed, and the engine IDLE. -/
def RecipeStore.complete (r : RecipeStore) (target : WriteTarget) : RecipeStore :=
  match target with
  | .configuration c => { r with engine := none, config := Block.written c }
  | .recipe slot c => { r with engine := none, recipes := r.recipes.set slot (Block.written c) }

/-- R166: the write's block, abandoned, and the engine IDLE. -/
def RecipeStore.abandon (r : RecipeStore) (target : WriteTarget) : RecipeStore :=
  match target with
  | .configuration _ => { r with engine := none, config := r.config.abandoned }
  | .recipe slot _ => { r with engine := none, recipes := r.recipes.set slot (r.recipes.get slot).abandoned }

/-- R165, R168: a write completed; a configuration takes effect in the same change. -/
def State.completeWrite (s : State) (w : StoreWrite) : State :=
  let s := (s.setStore (s.store.complete w.target)).storeDone w.port .ok
  match w.target with
  | .configuration c => s.takeEffect (configurationOf c)
  | .recipe _ _ => s

/-- R149, R166: a write abandoned at its deadline; a configuration's makes the configuration state INVALID. -/
def State.abandonWrite (s : State) (w : StoreWrite) : State :=
  let s := (s.setStore (s.store.abandon w.target)).storeDone w.port .timeout
  match w.target with
  | .configuration _ => s.setMode { s.mode with configState := .invalid }
  | .recipe _ _ => s

/-- R161, R165, R166: the completion of the write accepted at `accepted`. It is taken when that write is in
flight, no earlier than its nominal time, and not after its deadline; the completion of an abandoned write
changes nothing (assumption 3). -/
def State.storeCompletion (s : State) (now accepted : Time) : State :=
  match s.store.engine with
  | some w =>
    if w.accepted = accepted ∧ accepted + ms w.target.nominal ≤ now ∧ now ≤ w.due then s.completeWrite w
    else s
  | none => s

/-- R166: the deadline expiry of the write in flight, when its time has come. -/
def State.storeDeadline (s : State) (now : Time) : State :=
  match s.store.engine with
  | some w => if w.due ≤ now then s.abandonWrite w else s
  | none => s

/-! ## Requests -/

/-- R180: a BAD_VALUE that names a field or item. -/
def Reply.badField (n : Nat) : Reply := { status := .badValue, data := [byteOf n] }

/-- Write Recipe (R162). -/
def takeWriteRecipe (now : Time) (port : Port) (slot : Byte) (contents : RecipeWire) (s : State) :
    State × Reply :=
  if s.mode.mode = .waking then (s, Reply.refuse .busy)
  else if s.store.engine.isSome then (s, Reply.refuse .busy)
  else
    match slotOf slot with
    | none => (s, Reply.badField 0)
    | some n =>
      match recipeFault contents with
      | some k => (s, Reply.badField k)
      | none =>
        if s.slotInUse n then (s, Reply.refuse .inUse)
        else (s.acceptWrite now port (.recipe n contents), Reply.ok [slot])

/-- Write Configuration (R164). -/
def takeWriteConfiguration (now : Time) (port : Port) (contents : ConfigWire) (s : State) : State × Reply :=
  if s.mode.mode = .waking then (s, Reply.refuse .busy)
  else if s.mode.mode ≠ .setup then (s, Reply.refuse .wrongMode)
  else if productCount s.web.rows ≠ 0 then (s, Reply.refuse .inUse)
  else if s.store.engine.isSome then (s, Reply.refuse .busy)
  else
    match configFault contents with
    | some k => (s, Reply.badField k)
    | none => (s.acceptWrite now port (.configuration contents), Reply.ok [])

/-- The contents a read of a block shows: those of a VALID block (R169, R170). -/
def Block.shown {α : Type} (b : Block α) : Option α := if b.state = .valid then b.contents else none

/-- Read Recipe (R169). -/
def takeReadRecipe (slot : Byte) (s : State) : State × Reply :=
  if s.mode.mode = .waking then (s, Reply.refuse .busy)
  else
    match slotOf slot with
    | none => (s, Reply.refuse .badValue)
    | some n =>
      let b := s.store.recipes.get n
      (s, Reply.ok ([b.state.code, boolByte (s.store.writingRecipe n), boolByte (s.slotInUse n)] ++
        (b.shown.map RecipeWire.bytes).getD (List.replicate 32 0)))

/-- Read Configuration (R170). -/
def takeReadConfiguration (s : State) : State × Reply :=
  if s.mode.mode = .waking then (s, Reply.refuse .busy)
  else
    let b := s.store.config
    (s, Reply.ok ([b.state.code, boolByte s.store.writingConfiguration] ++
      (b.shown.map ConfigWire.bytes).getD (List.replicate 85 0)))

end Sys2Proof.Machine
end

