-- ==== Sys2Proof/Machine/Modes.lean ====
section
/-! DEFINITION. The Mode Controller: mode requests (6.2), starting (6.3), draining (6.4), the wake self-check
(6.5), lane mask and assignments (6.7), web break (6.8), and the reads that gather the line's standing. -/

namespace Sys2Proof.Machine

/-- An OK reply carrying the line mode as it stands once every change has been made (6.2). -/
def withMode (s : State) : State × Reply := (s, Reply.ok [s.mode.mode.code])

/-! ## Mode requests -/

/-- R126, R71, R99: the change into STANDBY. -/
def State.enterStandby (s : State) (now : Time) : State :=
  let s := (s.changeMode .standby).abortStroke now
  let s := s.setAcq { s.acq.emptyBuffers with idleDue := none }
  s.evaluateLanes s.web.lanes

/-- Enter Standby (R125, R126). -/
def takeEnterStandby (now : Time) (s : State) : State × Reply :=
  match s.mode.mode with
  | .waking => (s, Reply.refuse .busy)
  | .standby => withMode s
  | .setup => if s.store.engine.isSome then (s, Reply.refuse .busy) else withMode (s.enterStandby now)
  | .run => if s.store.engine.isSome then (s, Reply.refuse .busy) else withMode (s.enterStandby now)
  | .drain => if s.store.engine.isSome then (s, Reply.refuse .busy) else withMode (s.enterStandby now)

/-- R128: the change into WAKING, with origin Leave Standby and the self-check timer at 30 ms. -/
def State.leaveStandby (s : State) (now : Time) : State :=
  let s := s.changeMode .waking
  s.setMode { s.mode with wake := some { due := now + ms 30, origin := .leaveStandby } }

/-- Leave Standby (R125, R128). -/
def takeLeaveStandby (now : Time) (s : State) : State × Reply :=
  match s.mode.mode with
  | .waking => (s, Reply.refuse .busy)
  | .standby => if s.store.engine.isSome then (s, Reply.refuse .busy) else withMode (s.leaveStandby now)
  | .setup => withMode s
  | .run => withMode s
  | .drain => withMode s

/-- The lanes of the lane mask (R142), which are below N. -/
def State.maskedLanes (s : State) : List Lane :=
  (lanesBelow s.web.lanes).filter fun n => s.mode.laneMask.get n

/-- R130, check 4: a lane has an assignment whose recipe block is VALID. -/
def State.laneRecipeValid (s : State) (lane : Lane) : Bool :=
  (s.mode.assignments.get lane).any s.store.recipeValid

/-- R76: a lane is READY. -/
def State.laneReady (s : State) (lane : Lane) : Bool := (s.acq.lanes.get lane).ready == .ready

/-- R130: the checks of Start from SETUP, in order; the first that fails. -/
def State.startRefusal (s : State) : Option Status :=
  if s.store.writingConfiguration then some .busy
  else if s.mode.configState ≠ .valid then some .configInvalid
  else if s.maskedLanes.isEmpty then some .badValue
  else if !s.maskedLanes.all s.laneRecipeValid then some .recipeInvalid
  else if !s.maskedLanes.all s.laneReady then some .notReady
  else none

/-- Start (R125, R130, R132). -/
def takeStart (s : State) : State × Reply :=
  match s.mode.mode with
  | .standby => (s, Reply.refuse .standby)
  | .waking => (s, Reply.refuse .busy)
  | .setup =>
    match s.startRefusal with
    | some st => (s, Reply.refuse st)
    | none => withMode (s.changeMode .run)
  | .run => withMode s
  | .drain => withMode (s.changeMode .run)

/-- R133: in DRAIN, with no PRODUCT record on the track, the mode becomes SETUP. -/
def State.drainCheck (s : State) : State :=
  if s.mode.mode = .drain ∧ productCount s.web.rows = 0 then s.changeMode .setup else s

/-- Stop (R125, R129). -/
def takeStop (s : State) : State × Reply :=
  match s.mode.mode with
  | .standby => (s, Reply.refuse .standby)
  | .waking => (s, Reply.refuse .busy)
  | .setup => (s, Reply.refuse .wrongMode)
  | .run => withMode (s.changeMode .drain).drainCheck
  | .drain => withMode s

/-- Declare Web Break (R125, R148). -/
def takeDeclareWebBreak (s : State) : State × Reply :=
  match s.mode.mode with
  | .waking => (s, Reply.refuse .busy)
  | .standby => withMode s.loseTrack
  | .setup => withMode s.loseTrack
  | .run => withMode (s.loseTrack.changeMode .setup)
  | .drain => withMode (s.loseTrack.changeMode .setup)

/-! ## Lanes in production -/

/-- R143: the checks of Set Lane Mask, in order; the first that fails. -/
def State.maskRefusal (s : State) (set : Byte) : Option Status :=
  let added := (lanesBelow s.web.lanes).filter fun n => (laneSetOf set).get n && !s.mode.laneMask.get n
  if 2 ^ s.web.lanes ≤ set.toNat then some .badValue
  else if !s.mode.mode.producing then none
  else if set = 0 then some .badValue
  else if !added.all s.laneRecipeValid then some .recipeInvalid
  else if !added.all s.laneReady then some .notReady
  else none

/-- Set Lane Mask (R143). -/
def takeSetLaneMask (set : Byte) (s : State) : State × Reply :=
  match s.mode.mode with
  | .standby => (s, Reply.refuse .standby)
  | .waking => (s, Reply.refuse .busy)
  | _ =>
    match s.maskRefusal set with
    | some st => (s, Reply.refuse st)
    | none => (s.setMode { s.mode with laneMask := laneSetOf set }, Reply.ok [set])

/-- R146, check 1, and R181: the lane and the slot or none a Set Lane Recipe names. -/
def assignmentTarget (lanes : Nat) (lane presence slot : Byte) : Option (Lane × Option RecipeSlot) :=
  match laneOf lanes lane with
  | none => none
  | some n =>
    if presence = 0 then some (n, none)
    else if presence = 1 then (slotOf slot).map fun r => (n, some r)
    else none

/-- R146: checks 2 to 4 of Set Lane Recipe, in order; the first that fails. -/
def State.assignRefusal (s : State) (lane : Lane) (recipe : Option RecipeSlot) : Option Status :=
  match recipe with
  | none => if s.mode.mode.producing && s.mode.laneMask.get lane then some .badValue else none
  | some r =>
    if s.store.writingRecipe r then some .busy
    else if !s.store.recipeValid r then some .recipeInvalid
    else none

/-- R145, R146: one lane's assignment replaced and its ready state evaluated at once. -/
def State.assign (s : State) (lane : Lane) (recipe : Option RecipeSlot) : State :=
  (s.setMode { s.mode with assignments := s.mode.assignments.set lane recipe }).evaluateLane false lane

/-- Set Lane Recipe (R146). -/
def takeSetLaneRecipe (lane presence slot : Byte) (s : State) : State × Reply :=
  match s.mode.mode with
  | .standby => (s, Reply.refuse .standby)
  | .waking => (s, Reply.refuse .busy)
  | _ =>
    match assignmentTarget s.web.lanes lane presence slot with
    | none => (s, Reply.refuse .badValue)
    | some (n, recipe) =>
      match s.assignRefusal n recipe with
      | some st => (s, Reply.refuse st)
      | none => (s.assign n recipe, Reply.ok [])

/-! ## The self-check -/

/-- R171: a port's change to 115,200 baud when the configuration is found INVALID. A frame being received is
discarded; a response being sent is finished at the old baud. -/
def StationPort.turnBaud (p : StationPort) (baud : Baud) : StationPort :=
  if p.rxBaud = baud then p
  else
    { p with
      rxBaud := baud
      receiver := .hunting
      txBaud := if p.sending.isSome then p.txBaud else baud }

/-- R137, R156, R171, R191: the turn to the factory default settings, with the track lost at their geometry. -/
def State.factoryTurn (s : State) : State :=
  let c := factoryDefault
  let s := (s.loadSettings c).loseTrackAt c.lanes c.length
  let s := s.setAcq (s.acq.holdLanes c.lanes)
  let s := s.setPorts (Quad.zipWith StationPort.turnBaud s.ports c.bauds)
  s.setEvents (Quad.zipWith (fun e en => { e with enable := en }) s.events c.enables)

/-- R136: the configuration state a self-check gives. -/
def configStateOf (b : BlockState) : ConfigState :=
  match b with
  | .valid => .valid
  | .empty => .invalid
  | .invalid => .invalid
  | .unverified => .invalid

/-- R136: the flag that tells the end of a WAKING. -/
def wakeFlag : WakeOrigin → EventFlag
  | .reset => .resetDone
  | .leaveStandby => .mode

/-- R136, R137: the self-check completed, in one change. -/
def State.completeSelfCheck (s : State) (now : Time) (w : Wake) (ref : RawCode) : State :=
  let before := s.web.lanes
  let s := s.setStore s.store.verifyAll
  let state := configStateOf s.store.config.state
  let s := if state = .valid then s else s.factoryTurn
  let s := s.judgeReference ref .wake
  let s := s.setMode { s.mode with configState := state, mode := .setup, wake := none }
  let s := (s.evaluateLanes before).startIdle now
  s.raiseAll (wakeFlag w.origin)

/-- R136: the expiry of the self-check timer, when its time has come. -/
def State.selfCheckExpiry (s : State) (now : Time) (ref : RawCode) : State :=
  match s.mode.wake with
  | some w => if w.due ≤ now then s.completeSelfCheck now w ref else s
  | none => s

/-! ## Reads -/

/-- R151: a lane's part of Read Line Status: presence, slot, ready state. -/
def State.laneStatus (s : State) (lane : Lane) : List Byte :=
  let a := s.mode.assignments.get lane
  [boolByte a.isSome, byteOf ((a.map (·.val)).getD 0), (s.acq.lanes.get lane).ready.code]

/-- Read Line Status (R151, R182), taken in every mode. -/
def takeReadLineStatus (s : State) : State × Reply :=
  (s, Reply.ok
    ([s.mode.mode.code, s.mode.configState.code, byteOf s.web.lanes, byteOf s.web.length,
        laneSetCode s.mode.laneMask] ++
      (lanesBelow s.web.lanes).flatMap s.laneStatus ++
      [byteOf (productCount s.web.rows)] ++ le32 s.web.indexCount ++ le24 s.web.nextSerial ++
      [boolByte s.store.engine.isSome, s.store.config.state.code] ++
      s.store.recipes.toList.map fun b => b.state.code))

/-- R77: a lane's part of Read Platens. -/
def LaneSamples.bytes (l : LaneSamples) : List Byte :=
  [l.ready.code, byteOf l.buffer.length,
      boolByte (platenMean l.buffer).isSome ||| boolByte l.lastRaw.isSome <<< 1] ++
    nat16 ((platenMean l.buffer).getD 0) ++ [boolByte l.faulted] ++ rawBytes (l.lastRaw.getD 0)

/-- R77: what the Acquisition Unit is doing: STROKE 2, IDLE 1, OFF 0. -/
def State.activity (s : State) : Byte :=
  if s.stroke.phase.stroke?.isSome then 2 else if s.mode.mode.active then 1 else 0

/-- R77: the press part of Read Platens; the force is converted under the calibration in force
(assumption 14). -/
def Acquisition.pressBytes (a : Acquisition) : List Byte :=
  let force := a.pressRaw.bind (convertPress a.calibration)
  [boolByte a.pressRaw.isSome ||| boolByte force.isSome <<< 1] ++ rawBytes (a.pressRaw.getD 0) ++
    nat16 (force.getD 0)

/-- R77: the reference part of Read Platens. -/
def Acquisition.referenceBytes (a : Acquisition) : List Byte :=
  match a.reference with
  | some r => [1] ++ rawBytes r.code ++ [boolByte r.ok, r.source.code]
  | none => [0, 0, 0, 0, 0]

/-- Read Platens (R77). -/
def takeReadPlatens (s : State) : State × Reply :=
  if s.mode.mode = .waking then (s, Reply.refuse .busy)
  else
    (s, Reply.ok ([s.activity, byteOf s.web.lanes] ++
      (s.acq.lanes.take s.web.lanes).flatMap LaneSamples.bytes ++ s.acq.pressBytes ++ s.acq.referenceBytes))

/-- Read Stroke Report (R103). -/
def takeReadStrokeReport (s : State) : State × Reply :=
  if s.mode.mode = .waking then (s, Reply.refuse .busy)
  else
    (s, Reply.ok ([boolByte s.stroke.phase.stroke?.isSome] ++ le16 s.stroke.number ++
      match s.stroke.report with
      | some r => 1 :: r.bytes
      | none => [0]))

/-! ## Events -/

/-- Read Events (R190), taken in every mode. -/
def takeReadEvents (port : Port) (s : State) : State × Reply :=
  let e := s.events.get port
  let result := if e.reportsStore then (e.storeResult.map StoreResult.code).getD 0 else 0
  (s.setEvents (s.events.set port e.clearReported), Reply.ok (le16 (e.reported.setWidth 16) ++ [result]))

/-- Set Event Enable (R189), taken in every mode. -/
def takeSetEventEnable (port : Port) (set : BitVec 16) (s : State) : State × Reply :=
  if !eventSetOk set then (s, Reply.refuse .badValue)
  else
    (s.setEvents (s.events.modify port fun e => { e with enable := set.setWidth 10 }), Reply.ok [])

/-- Identify (R183), taken in every mode. -/
def takeIdentify (port : Port) (s : State) : State × Reply :=
  (s, Reply.ok (le16 0x0152 ++ le16 0x0030 ++ [byteOf (Config.revisionLessOne.val + 1), byteOf port.val]))

/-- Reset Part (R141), taken in every mode; the reset follows the reply. -/
def takeResetPart (s : State) : State × Reply := (s, Reply.ok [])

end Sys2Proof.Machine
end

