-- ==== Sys2Proof/Machine/Resets.lean ====
section
/-! DEFINITION. The three kinds of reset: the state each leaves in every block (R31, R32, R78, R104, R121, R122,
R140, R167, R184, R191). -/

namespace Sys2Proof.Machine

/-- R167, R158: the Recipe Store after a reset: the write in flight dropped, every block UNVERIFIED, the
deadline of the configuration supplied. -/
def RecipeStore.afterReset (r : RecipeStore) : RecipeStore :=
  { config := r.config.afterReset
    recipes := r.recipes.map Block.afterReset
    engine := none
    deadline := r.supplied.deadline }

/-- R78: a lane's ready state after a reset. -/
def readyAfterReset (c : Configuration) (lane : Lane) : ReadyState :=
  if lane.val < c.lanes ∧ (c.assignments.get lane).isSome then .unknown else .noRecipe

/-- The state a reset leaves. `keep` says that the serial counter, the discharge log and the next sequence
number are kept, as Reset Part keeps them (R32, R122); `wake` is the self-check that begins, absent while the
RESET line is held (R140). -/
def State.afterReset (s : State) (keep : Bool) (wake : Option Wake) : State :=
  let c := s.store.supplied
  { web :=
      { lanes := c.lanes
        length := c.length
        minInterval := c.minInterval
        rows := untrackedRows c.lanes c.length
        nextSerial := if keep then s.web.nextSerial else 1
        indexCount := 0
        lastTaken := none }
    verdict := { stations := c.stations, masks := c.masks.map fun q => q.restrict c.lanes FieldMask.empty }
    acq :=
      { calibration := c.calibration
        lanes := Quad.ofFn fun n => LaneSamples.fresh (readyAfterReset c n)
        pressRaw := none
        reference := none
        idleDue := none }
    stroke := { phase := .idle, number := 0, report := none }
    gate :=
      { pulses := Quad.fill none
        rejectWidth := c.rejectWidth
        reportPort := c.gatePort
        log := if keep then s.gate.log else []
        nextSeq := if keep then s.gate.nextSeq else 0 }
    mode :=
      { mode := .waking
        laneMask := c.laneMask.restrict c.lanes false
        assignments := c.assignments.restrict c.lanes none
        configState := .unverified
        wake := wake }
    store := s.store.afterReset
    ports := c.bauds.map StationPort.fresh
    events := c.enables.map PortEvents.fresh
    resetHeld := s.resetHeld
    pending := s.pending }

/-- R135: the self-check that a reset begins at `now`. -/
def resetWake (now : Time) : Wake := { due := now + ms 30, origin := .reset }

/-- R140: power-on. While the RESET line is held the part stays held in reset (assumption 12). -/
def State.powerOn (s : State) (now : Time) : State :=
  s.afterReset false (if s.resetHeld then none else some (resetWake now))

/-- R140: the RESET line asserted: the reset state, with no timer running. -/
def State.assertReset (s : State) : State := { s.afterReset false none with resetHeld := true }

/-- R140: the RESET line released: the reset state is taken and WAKING begins. -/
def State.releaseReset (s : State) (now : Time) : State :=
  if s.resetHeld then { s.afterReset false (some (resetWake now)) with resetHeld := false } else s

/-- R184: the reset that a Reset Part announced. -/
def State.partReset (s : State) (now : Time) : State := s.afterReset true (some (resetWake now))

end Sys2Proof.Machine
end

