-- ==== Sys2Proof/Machine/Ports.lean ====
section
/-! DEFINITION. The Station Ports: reception (8.2), judging and answering (8.4), the held frame and the lost-frame
mark (R177, R178), and the end of a response (R171, R177, R184). -/

namespace Sys2Proof.Machine

/-- A request taken by its owning block (R176). -/
def takeRequest (now : Time) (port : Port) : Request → State → State × Reply
  | .identify => takeIdentify port
  | .readLineStatus => takeReadLineStatus
  | .enterStandby => takeEnterStandby now
  | .leaveStandby => takeLeaveStandby now
  | .start => takeStart
  | .stop => takeStop
  | .declareWebBreak => takeDeclareWebBreak
  | .setLaneMask set => takeSetLaneMask set
  | .setLaneRecipe lane presence slot => takeSetLaneRecipe lane presence slot
  | .resetPart => takeResetPart
  | .postVerdict station lane serial value detail => takePostVerdict port station lane serial value detail
  | .setHold lane serial => takeSetHold port lane serial
  | .clearHold lane serial => takeClearHold port lane serial
  | .readRecord lane slot => takeReadRecord lane slot
  | .findSerial serial => takeFindSerial serial
  | .readPlane lane selector => takeReadPlane lane selector
  | .readStrokeReport => takeReadStrokeReport
  | .readPlatens => takeReadPlatens
  | .readDischargeLog first count => takeReadDischargeLog first count
  | .readEvents => takeReadEvents port
  | .setEventEnable set => takeSetEventEnable port set
  | .writeConfiguration contents => takeWriteConfiguration now port contents
  | .readConfiguration => takeReadConfiguration
  | .writeRecipe slot contents => takeWriteRecipe now port slot contents
  | .readRecipe slot => takeReadRecipe slot
  | .setPortMask target lane mask => takeSetPortMask target lane mask
  | .readPortMask target => takeReadPortMask target

/-! ## Responses -/

/-- R178, R180: a response built from a reply, with the attention line and the lost-frame mark as they stand. -/
def State.buildResponse (s : State) (port : Port) (code : Byte) (r : Reply) : Response :=
  { code := code
    status := r.status
    attention := (s.events.get port).attention
    lost := (s.ports.get port).lost
    data := r.data }

/-- R177, R178: a response built and its transmission begun; the lost-frame mark is cleared in that step. The
state is the one the request's own effect left (assumption 15). -/
def respond (port : Port) (code : Byte) (x : State × Reply) : State :=
  let s := x.1
  s.setPorts (s.ports.modify port fun p =>
    { p with sending := some (s.buildResponse port code x.2), lost := false })

/-- R176: a request that passes the judging is taken and answered. -/
def answerRequest (now : Time) (port : Port) (r : Request) (s : State) : State :=
  respond port r.code (takeRequest now port r s)

/-- R176: a complete frame judged and answered. -/
def answerFrame (now : Time) (port : Port) (f : Frame) (s : State) : State :=
  match judge f with
  | .badCheck => respond port 0x00 (s, Reply.refuse .badCheck)
  | .unknown code => respond port code (s, Reply.refuse .unknown)
  | .badLength code => respond port code (s, Reply.refuse .badLength)
  | .request r => answerRequest now port r s

/-! ## Frames -/

/-- R173: the receiver returned to HUNTING. -/
def State.hunt (s : State) (port : Port) : State :=
  s.setPorts (s.ports.modify port fun p => { p with receiver := .hunting })

/-- R177: a frame becomes complete on a port. With a frame held it is discarded and the lost-frame mark is set;
with a response being sent it is held; else it is answered at once. While the RESET line is held no byte is
received (R184). -/
def deliver (port : Port) (f : Frame) (answer : State → State) (s : State) : State :=
  if s.resetHeld then s
  else
    let s := s.hunt port
    match (s.ports.get port).held, (s.ports.get port).sending with
    | some _, _ => s.setPorts (s.ports.modify port fun p => { p with lost := true })
    | none, some _ => s.setPorts (s.ports.modify port fun p => { p with held := some f })
    | none, none => answer s

/-- A complete frame, judged when its turn comes. -/
def frameComplete (now : Time) (port : Port) (f : Frame) (s : State) : State :=
  deliver port f (answerFrame now port f) s

/-- A request's good frame complete on a port. -/
def submit (now : Time) (port : Port) (r : Request) (s : State) : State :=
  deliver port r.frame (answerRequest now port r) s

/-! ## Reception -/

/-- What a received character makes of the receiver: a new receive state, or a complete frame. -/
inductive Reception where
  | state (r : Receiver)
  | complete (f : Frame)
  deriving DecidableEq, Repr

/-- R173: a byte met in HUNTING. -/
def huntByte (now : Time) (b : Byte) : Receiver := if b = 0xA5 then .inFrame [] now else .hunting

/-- R173: a byte met inside a frame, LEN first; the byte after LEN further bytes is the CHECK. -/
def frameByte (now : Time) (bytes : List Byte) (b : Byte) : Reception :=
  match bytes with
  | [] => if within 1 120 b.toNat then .state (.inFrame [b] now) else .state (huntByte now b)
  | len :: rest =>
    if rest.length < len.toNat then .state (.inFrame (len :: rest ++ [b]) now)
    else
      match rest with
      | [] => .state (huntByte now b)
      | code :: params => .complete { code := code, params := params, check := b }

/-- R174: more than 10 ms from the last byte to `t`. -/
def gapPassed (last t : Time) : Bool := decide (last + ms 10 < t)

/-- R173, R174: a character whose start bit began at `begun` and whose stop bit ended at `now`. After a gap it
is the first byte of a new hunt. In HUNTING `begun` is compared with nothing: DESIGN CHOICE, unsafe (assumption 28). -/
def receive (r : Receiver) (begun now : Time) (b : Byte) : Reception :=
  match r with
  | .hunting => .state (huntByte now b)
  | .inFrame bytes last => if gapPassed last begun then .state (huntByte now b) else frameByte now bytes b

/-- R173, R184: a character arrives on a port; while the RESET line is held none does. One whose start bit began before
a reset, a release of the RESET line or a turn of the baud, and whose stop bit ends after it, is taken whole as the first
byte of the new hunt, a case the manual leaves open: DESIGN CHOICE, unsafe (assumption 28). -/
def State.receiveByte (s : State) (begun now : Time) (port : Port) (b : Byte) : State :=
  if s.resetHeld then s
  else
    match receive (s.ports.get port).receiver begun now b with
    | .state r => s.setPorts (s.ports.modify port fun p => { p with receiver := r })
    | .complete f => frameComplete now port f s

/-- R174: a gap inside a frame ends it. -/
def Receiver.gap (r : Receiver) (now : Time) : Receiver :=
  match r with
  | .hunting => .hunting
  | .inFrame bytes last => if gapPassed last now then .hunting else .inFrame bytes last

/-! ## The end of a response -/

/-- R184: the response announces a reset: it is the OK to a Reset Part. -/
def Response.announcesReset (r : Response) : Bool := r.code == 0x17 && r.status == .ok

/-- R171, R177: the transmitter falls idle, and a baud change that waited for it is made. -/
def StationPort.sent (p : StationPort) : StationPort := { p with sending := none, txBaud := p.rxBaud }

/-- R177: the held frame leaves the hold, to be judged and answered now. -/
def State.answerHeld (s : State) (now : Time) (port : Port) : State :=
  match (s.ports.get port).held with
  | none => s
  | some f => answerFrame now port f (s.setPorts (s.ports.modify port fun p => { p with held := none }))

/-- R177, R184: the last byte of a port's response has gone. After the response to a Reset Part the reset is
taken, and any frame held is lost with the rest; else a held frame is answered (assumption 8). -/
def State.responseSent (s : State) (now : Time) (port : Port) : State :=
  match (s.ports.get port).sending with
  | none => s
  | some r =>
    if r.announcesReset then s.partReset now
    else (s.setPorts (s.ports.modify port StationPort.sent)).answerHeld now port

/-- R184: the last byte of a port's Reset Part response has gone and the reset is taken. -/
def State.resetTaken (s : State) (now : Time) (port : Port) : State :=
  if ((s.ports.get port).sending.any Response.announcesReset) then s.partReset now else s

end Sys2Proof.Machine
end

