-- ==== Sys2Proof/Machine/Lines.lean ====
section
/-! DEFINITION. The meanings of the line, timer, reset and port commands: one definition for each. While the RESET
line is held no line edge is seen and no timer runs (R140), so every command but the resets leaves the state
as it is. -/

namespace Sys2Proof.Machine

/-- The answer of every command: the block has no fault and no refusal. -/
abbrev Answer := Host.Outcome State Fault Refusal

/-- A command's effect, outside reset. -/
def State.unlessHeld (s : State) (f : State → State) : Answer := .next (if s.resetHeld then s else f s)

/-! ## Index edges -/

/-- R21: the work of the four blocks a taken index is handed on to, on the shifted track. -/
def State.handOn (s : State) (now : Time) (cards : Quad Bool) : State :=
  (((s.verdictIndex cards).abortStroke now).gateIndex now).drainCheck

/-- R17: a taken INDEX edge. -/
def State.takeIndex (s : State) (now : Time) (cards : Quad Bool) : State :=
  let s := s.setWeb (s.web.countEdge now)
  if s.mode.mode.active then (s.setWeb (s.web.shift s.mode)).handOn now cards else s.loseTrack

/-- R14, R15: a rising INDEX edge is taken, or ignored with GLITCH on every port. -/
def State.indexEdge (s : State) (now : Time) (cards : Quad Bool) : State :=
  if s.web.takesEdge now then s.takeIndex now cards else s.raiseAll .glitch

/-- INDEX_EDGE. -/
def execIndexEdge (now : Time) (cards : Quad Bool) (s : State) : Answer :=
  s.unlessHeld fun s => s.indexEdge now cards

/-! ## Strokes and idle sampling -/

/-- SEAL_RISING_EDGE (R80): a stroke starts when the evaluator is IDLE and the mode is SETUP, RUN or DRAIN. -/
def execSealRisingEdge (now : Time) (ref : RawCode) (s : State) : Answer :=
  s.unlessHeld fun s =>
    match s.stroke.phase with
    | .idle => if s.mode.mode.active then s.startStroke now ref else s
    | .sampling _ _ => s
    | .capped _ => s

/-- ROUND (R87): a round, when one is due; the one that brings the count to 2048 caps the stroke (R91). -/
def execRound (now : Time) (press : RawCode) (temps : Quad RawCode) (s : State) : Answer :=
  s.unlessHeld fun s =>
    match s.stroke.phase with
    | .idle => s
    | .sampling due k => if due ≤ now then s.strokeRound due k press temps else s
    | .capped _ => s

/-- ROUND_CAP (R91): a stroke whose round count has reached 2048 is LONG and CAPPED. -/
def execRoundCap (_now : Time) (s : State) : Answer :=
  s.unlessHeld fun s =>
    match s.stroke.phase with
    | .idle => s
    | .sampling due k => s.setStroke { s.stroke with phase := capOrContinue due k }
    | .capped _ => s

/-- SEAL_FALLING_EDGE (R81). -/
def execSealFallingEdge (now : Time) (s : State) : Answer := s.unlessHeld fun s => s.completeStroke now

/-- IDLE_PASS (R67): a pass, when one is due; the next falls due 50 ms after it. -/
def execIdlePass (now : Time) (temps : Quad RawCode) (s : State) : Answer :=
  s.unlessHeld fun s =>
    match s.acq.idleDue with
    | none => s
    | some due => if due ≤ now then (s.idlePass temps).startIdle due else s

/-! ## Timers of the gate, the self-check and the store -/

/-- REJECT_PULSE_EXPIRY (R112). -/
def execRejectPulseExpiry (now : Time) (lane : Lane) (s : State) : Answer :=
  s.unlessHeld fun s => s.expirePulse now lane

/-- SELF_CHECK_EXPIRY (R136). -/
def execSelfCheckExpiry (now : Time) (ref : RawCode) (s : State) : Answer :=
  s.unlessHeld fun s => s.selfCheckExpiry now ref

/-- STORE_WRITE_COMPLETION (R165, R166). -/
def execStoreWriteCompletion (now accepted : Time) (s : State) : Answer :=
  s.unlessHeld fun s => s.storeCompletion now accepted

/-- STORE_WRITE_DEADLINE (R166). -/
def execStoreWriteDeadline (now : Time) (s : State) : Answer := s.unlessHeld fun s => s.storeDeadline now

/-! ## Resets -/

/-- POWER_ON (R140). -/
def execPowerOn (now : Time) (s : State) : Answer := .next (s.powerOn now)

/-- RESET_LINE_ASSERT (R140). -/
def execResetLineAssert (_now : Time) (s : State) : Answer := .next s.assertReset

/-- RESET_LINE_RELEASE (R140). -/
def execResetLineRelease (now : Time) (s : State) : Answer := .next (s.releaseReset now)

/-- PART_RESET_TAKEN (R184). -/
def execPartResetTaken (now : Time) (port : Port) (s : State) : Answer :=
  s.unlessHeld fun s => s.resetTaken now port

/-! ## Port events -/

/-- INTER_BYTE_GAP (R174). -/
def execInterByteGap (now : Time) (port : Port) (s : State) : Answer :=
  s.unlessHeld fun s => s.setPorts (s.ports.modify port fun p => { p with receiver := p.receiver.gap now })

/-- BAD_LEN_FRAME (R173): the character in LEN's place is a character received. -/
def execBadLenFrame (begun now : Time) (port : Port) (len : Byte) (s : State) : Answer :=
  .next (s.receiveByte begun now port len)

/-- FRAME_HELD (R177). -/
def execFrameHeld (now : Time) (port : Port) (frame : Frame) (s : State) : Answer :=
  .next (frameComplete now port frame s)

/-- LOST_FRAME (R177). -/
def execLostFrame (now : Time) (port : Port) (frame : Frame) (s : State) : Answer :=
  .next (frameComplete now port frame s)

/-- RESPONSE_SENT (R177). -/
def execResponseSent (now : Time) (port : Port) (s : State) : Answer :=
  s.unlessHeld fun s => s.responseSent now port

/-- BAD_CHECK (R176). -/
def execBadCheck (now : Time) (port : Port) (frame : Frame) (s : State) : Answer :=
  .next (frameComplete now port frame s)

/-- UNKNOWN (R176): the frame carries a good check. -/
def execUnknown (now : Time) (port : Port) (code : Byte) (params : List Byte) (s : State) : Answer :=
  .next (frameComplete now port (Frame.good code params) s)

/-- BYTE_RECEIVED (R171, R173): a character with no valid stop bit is discarded as though it had not arrived. -/
def execByteReceived (begun now : Time) (port : Port) (byte : Byte) (stopOk : Bool) (s : State) : Answer :=
  .next (if stopOk then s.receiveByte begun now port byte else s)

end Sys2Proof.Machine
end

