-- ==== Sys2Proof/Machine/Requests.lean ====
section
/-! DEFINITION. The meanings of the request commands: a good frame of the request completes on the port (R177),
and when its turn comes its owning block takes it (R176). What each request does stands with its block. -/

namespace Sys2Proof.Machine

/-- IDENTIFY (R183). -/
def execIdentify (now : Time) (port : Port) (s : State) : Answer :=
  .next (submit now port .identify s)

/-- READ_LINE_STATUS (R151). -/
def execReadLineStatus (now : Time) (port : Port) (s : State) : Answer :=
  .next (submit now port .readLineStatus s)

/-- ENTER_STANDBY (R126). -/
def execEnterStandby (now : Time) (port : Port) (s : State) : Answer :=
  .next (submit now port .enterStandby s)

/-- LEAVE_STANDBY (R128). -/
def execLeaveStandby (now : Time) (port : Port) (s : State) : Answer :=
  .next (submit now port .leaveStandby s)

/-- START (R130). -/
def execStart (now : Time) (port : Port) (s : State) : Answer :=
  .next (submit now port .start s)

/-- STOP (R129). -/
def execStop (now : Time) (port : Port) (s : State) : Answer :=
  .next (submit now port .stop s)

/-- DECLARE_WEB_BREAK (R148). -/
def execDeclareWebBreak (now : Time) (port : Port) (s : State) : Answer :=
  .next (submit now port .declareWebBreak s)

/-- SET_LANE_MASK (R143). -/
def execSetLaneMask (now : Time) (port : Port) (set : Byte) (s : State) : Answer :=
  .next (submit now port (.setLaneMask set) s)

/-- SET_LANE_RECIPE (R146). -/
def execSetLaneRecipe (now : Time) (port : Port) (lane presence slot : Byte) (s : State) : Answer :=
  .next (submit now port (.setLaneRecipe lane presence slot) s)

/-- RESET_PART (R141). -/
def execResetPart (now : Time) (port : Port) (s : State) : Answer :=
  .next (submit now port .resetPart s)

/-- POST_VERDICT (R42). -/
def execPostVerdict (now : Time) (port : Port) (station lane : Byte) (serial : Serial) (value detail : Byte) (s : State) : Answer :=
  .next (submit now port (.postVerdict station lane serial value detail) s)

/-- SET_HOLD (R53). -/
def execSetHold (now : Time) (port : Port) (lane : Byte) (serial : Serial) (s : State) : Answer :=
  .next (submit now port (.setHold lane serial) s)

/-- CLEAR_HOLD (R54). -/
def execClearHold (now : Time) (port : Port) (lane : Byte) (serial : Serial) (s : State) : Answer :=
  .next (submit now port (.clearHold lane serial) s)

/-- READ_RECORD (R26). -/
def execReadRecord (now : Time) (port : Port) (lane slot : Byte) (s : State) : Answer :=
  .next (submit now port (.readRecord lane slot) s)

/-- FIND_SERIAL (R27). -/
def execFindSerial (now : Time) (port : Port) (serial : Serial) (s : State) : Answer :=
  .next (submit now port (.findSerial serial) s)

/-- READ_PLANE (R28). -/
def execReadPlane (now : Time) (port : Port) (lane selector : Byte) (s : State) : Answer :=
  .next (submit now port (.readPlane lane selector) s)

/-- READ_STROKE_REPORT (R103). -/
def execReadStrokeReport (now : Time) (port : Port) (s : State) : Answer :=
  .next (submit now port .readStrokeReport s)

/-- READ_PLATENS (R77). -/
def execReadPlatens (now : Time) (port : Port) (s : State) : Answer :=
  .next (submit now port .readPlatens s)

/-- READ_DISCHARGE_LOG (R118). -/
def execReadDischargeLog (now : Time) (port : Port) (first : BitVec 32) (count : Byte) (s : State) : Answer :=
  .next (submit now port (.readDischargeLog first count) s)

/-- READ_EVENTS (R190). -/
def execReadEvents (now : Time) (port : Port) (s : State) : Answer :=
  .next (submit now port .readEvents s)

/-- SET_EVENT_ENABLE (R189). -/
def execSetEventEnable (now : Time) (port : Port) (set : BitVec 16) (s : State) : Answer :=
  .next (submit now port (.setEventEnable set) s)

/-- WRITE_CONFIGURATION (R164). -/
def execWriteConfiguration (now : Time) (port : Port) (contents : ConfigWire) (s : State) : Answer :=
  .next (submit now port (.writeConfiguration contents) s)

/-- READ_CONFIGURATION (R170). -/
def execReadConfiguration (now : Time) (port : Port) (s : State) : Answer :=
  .next (submit now port .readConfiguration s)

/-- WRITE_RECIPE (R162). -/
def execWriteRecipe (now : Time) (port : Port) (slot : Byte) (contents : RecipeWire) (s : State) : Answer :=
  .next (submit now port (.writeRecipe slot contents) s)

/-- READ_RECIPE (R169). -/
def execReadRecipe (now : Time) (port : Port) (slot : Byte) (s : State) : Answer :=
  .next (submit now port (.readRecipe slot) s)

/-- SET_PORT_MASK (R57). -/
def execSetPortMask (now : Time) (port : Port) (target lane mask : Byte) (s : State) : Answer :=
  .next (submit now port (.setPortMask target lane mask) s)

/-- READ_PORT_MASK (R58). -/
def execReadPortMask (now : Time) (port : Port) (target : Byte) (s : State) : Answer :=
  .next (submit now port (.readPortMask target) s)

end Sys2Proof.Machine
end

