-- ==== Sys2Proof/Machine/Dispatch.lean ====
section
/-! DEFINITION. One arm per command, each one call of its meaning. -/

namespace Sys2Proof.Machine

def exec (i : Instr) (s : State) : Host.Outcome State Fault Refusal :=
  match i with
  | .indexEdge now cards => Sys2Proof.Machine.execIndexEdge now cards s
  | .sealRisingEdge now ref => Sys2Proof.Machine.execSealRisingEdge now ref s
  | .round now press temps => Sys2Proof.Machine.execRound now press temps s
  | .roundCap now => Sys2Proof.Machine.execRoundCap now s
  | .sealFallingEdge now => Sys2Proof.Machine.execSealFallingEdge now s
  | .idlePass now temps => Sys2Proof.Machine.execIdlePass now temps s
  | .rejectPulseExpiry now lane => Sys2Proof.Machine.execRejectPulseExpiry now lane s
  | .selfCheckExpiry now ref => Sys2Proof.Machine.execSelfCheckExpiry now ref s
  | .storeWriteCompletion now accepted => Sys2Proof.Machine.execStoreWriteCompletion now accepted s
  | .storeWriteDeadline now => Sys2Proof.Machine.execStoreWriteDeadline now s
  | .powerOn now => Sys2Proof.Machine.execPowerOn now s
  | .resetLineAssert now => Sys2Proof.Machine.execResetLineAssert now s
  | .resetLineRelease now => Sys2Proof.Machine.execResetLineRelease now s
  | .partResetTaken now port => Sys2Proof.Machine.execPartResetTaken now port s
  | .interByteGap now port => Sys2Proof.Machine.execInterByteGap now port s
  | .badLenFrame begun now port len => Sys2Proof.Machine.execBadLenFrame begun now port len s
  | .frameHeld now port frame => Sys2Proof.Machine.execFrameHeld now port frame s
  | .lostFrame now port frame => Sys2Proof.Machine.execLostFrame now port frame s
  | .responseSent now port => Sys2Proof.Machine.execResponseSent now port s
  | .badCheck now port frame => Sys2Proof.Machine.execBadCheck now port frame s
  | .unknown now port code params => Sys2Proof.Machine.execUnknown now port code params s
  | .identify now port => Sys2Proof.Machine.execIdentify now port s
  | .readLineStatus now port => Sys2Proof.Machine.execReadLineStatus now port s
  | .enterStandby now port => Sys2Proof.Machine.execEnterStandby now port s
  | .leaveStandby now port => Sys2Proof.Machine.execLeaveStandby now port s
  | .start now port => Sys2Proof.Machine.execStart now port s
  | .stop now port => Sys2Proof.Machine.execStop now port s
  | .declareWebBreak now port => Sys2Proof.Machine.execDeclareWebBreak now port s
  | .setLaneMask now port set => Sys2Proof.Machine.execSetLaneMask now port set s
  | .setLaneRecipe now port lane presence slot => Sys2Proof.Machine.execSetLaneRecipe now port lane presence slot s
  | .resetPart now port => Sys2Proof.Machine.execResetPart now port s
  | .postVerdict now port station lane serial value detail => Sys2Proof.Machine.execPostVerdict now port station lane serial value detail s
  | .setHold now port lane serial => Sys2Proof.Machine.execSetHold now port lane serial s
  | .clearHold now port lane serial => Sys2Proof.Machine.execClearHold now port lane serial s
  | .readRecord now port lane slot => Sys2Proof.Machine.execReadRecord now port lane slot s
  | .findSerial now port serial => Sys2Proof.Machine.execFindSerial now port serial s
  | .readPlane now port lane selector => Sys2Proof.Machine.execReadPlane now port lane selector s
  | .readStrokeReport now port => Sys2Proof.Machine.execReadStrokeReport now port s
  | .readPlatens now port => Sys2Proof.Machine.execReadPlatens now port s
  | .readDischargeLog now port first count => Sys2Proof.Machine.execReadDischargeLog now port first count s
  | .readEvents now port => Sys2Proof.Machine.execReadEvents now port s
  | .setEventEnable now port set => Sys2Proof.Machine.execSetEventEnable now port set s
  | .writeConfiguration now port contents => Sys2Proof.Machine.execWriteConfiguration now port contents s
  | .readConfiguration now port => Sys2Proof.Machine.execReadConfiguration now port s
  | .writeRecipe now port slot contents => Sys2Proof.Machine.execWriteRecipe now port slot contents s
  | .readRecipe now port slot => Sys2Proof.Machine.execReadRecipe now port slot s
  | .setPortMask now port target lane mask => Sys2Proof.Machine.execSetPortMask now port target lane mask s
  | .readPortMask now port target => Sys2Proof.Machine.execReadPortMask now port target s
  | .byteReceived begun now port byte stopOk => Sys2Proof.Machine.execByteReceived begun now port byte stopOk s

end Sys2Proof.Machine
end

