-- ==== Sys2Proof/Safety.lean ====
section
/-! DEFINITION. The terms in which claims are stated: a port that answers at once and the state its answer leaves, a
flag raised, the invariants of the part, and what a step may not touch. -/

namespace Sys2Proof.Machine

/-! ## Answers -/

/-- R177: the port sends no response and holds no frame, and the part is not held in reset: a frame that
completes there is answered at once. -/
def State.portIdle (s : State) (port : Port) : Prop :=
  s.resetHeld = false ∧ (s.ports.get port).sending = none ∧ (s.ports.get port).held = none

/-- The state `e` with a response begun on a port: the receiver hunts, the response carries the attention line
and the lost-frame mark as they stand in `e`, and the mark is cleared. Nothing else differs from `e`. -/
def State.answering (e : State) (port : Port) (code : Byte) (status : Status) (data : List Byte) : State :=
  { e with
    ports := e.ports.set port
      { e.ports.get port with
        receiver := .hunting
        sending := some
          { code := code
            status := status
            attention := decide ((e.events.get port).flags &&& (e.events.get port).enable ≠ 0)
            lost := (e.ports.get port).lost
            data := data }
        lost := false } }

/-- The flag of a bit is set on a port. -/
def State.flagSet (s : State) (port : Port) (f : EventFlag) : Prop :=
  ((s.events.get port).flags).getLsbD f.bit = true

/-- The events of every port with the flags of a set added (R188). -/
def State.flagging (s : State) (set : BitVec 10) : Quad PortEvents :=
  s.events.map fun e => { e with flags := e.flags ||| set }

/-- From `s` to `t` the flags gain exactly the given news; enable sets and store results are kept (R188). -/
def State.raises (s t : State) (news : Port → EventFlag → Prop) : Prop :=
  ∀ p, (t.events.get p).enable = (s.events.get p).enable ∧
    (t.events.get p).storeResult = (s.events.get p).storeResult ∧
    ∀ f, t.flagSet p f ↔ s.flagSet p f ∨ news p f

/-- 2.1: the code of a windowed station. -/
def PortStation.code : PortStation → Byte
  | .form => 1
  | .load => 2
  | .inspect => 5
  | .aux => 6

/-- R42, R43: a value and detail that a station's post may carry. -/
def PortStation.takes (st : PortStation) (value detail : Byte) : Prop :=
  match st with
  | .load => value.toNat ≤ 15 ∧ detail = 0
  | .form => (value = 1 ∧ detail = 0) ∨ (value = 2 ∧ detail ≠ 0)
  | .inspect => (value = 1 ∧ detail = 0) ∨ (value = 2 ∧ detail ≠ 0)
  | .aux => (value = 1 ∧ detail = 0) ∨ (value = 2 ∧ detail ≠ 0)

/-! ## The record at a position -/

/-- The record at a lane and slot, if there is one. -/
def State.recordAt (s : State) (lane : Lane) (slot : Nat) : Option Record := (s.web.rows.get lane)[slot]?

/-- What a record is from its creation to its end: its Kind and, for PRODUCT, its Serial and Recipe (R2, R3). -/
def Record.identity (r : Record) : Kind × Option (Serial × RecipeSlot) :=
  (r.kind, r.product?.map fun p => (p.serial, p.recipe))

/-- No PRODUCT record stands on the track. -/
def State.noProduct (s : State) : Prop := ∀ lane slot p, s.recordAt lane slot ≠ some (.product p)

/-! ## A taken index -/

/-- R14: an INDEX edge at `now` is taken. -/
def State.edgeTaken (s : State) (now : Time) : Prop :=
  ∀ last, s.web.lastTaken = some last → last + ms s.web.minInterval ≤ now

/-- R19: the lanes whose entry record is PRODUCT, in lane order. -/
def State.entryLanes (s : State) : List Lane :=
  if s.mode.mode = .run then (lanesBelow s.web.lanes).filter fun n => s.mode.laneMask.get n else []

/-- R11: the serial counter after `k` issues. -/
def serialAfterIssues (k : Nat) (n : Serial) : Serial := Nat.iterate serialAfter k n

/-- R19: a lane's entry record: PRODUCT for an entry lane, with the serial its place in lane order gives. -/
def State.entryFor (s : State) (lane : Lane) : Record :=
  match s.mode.assignments.get lane with
  | some recipe =>
    if lane ∈ s.entryLanes then
      .product
        { serial := serialAfterIssues (s.entryLanes.filter fun n => n.val < lane.val).length s.web.nextSerial
          recipe := recipe
          form := .none
          load := .none
          card := .none
          heatSeal := .none
          inspect := .none
          aux := .none
          hold := none }
    else .void
  | none => .void

/-- R38, R51: a PRODUCT record after the index that brought it to a slot: a NONE field whose window closes there
is LATE, a NONE Card field at the CARD slot is sampled, and all else is as it was. -/
def Product.brought (m : StationMap) (high : Bool) (slot : Nat) (p : Product) : Product :=
  { p with
    form := if m.form.enabled ∧ slot = m.form.slot + m.form.window ∧ p.form = .none then .late else p.form
    load := if m.load.enabled ∧ slot = m.load.slot + m.load.window ∧ p.load = .none then .late else p.load
    inspect :=
      if m.inspect.enabled ∧ slot = m.inspect.slot + m.inspect.window ∧ p.inspect = .none then .late
      else p.inspect
    aux := if m.aux.enabled ∧ slot = m.aux.slot + m.aux.window ∧ p.aux = .none then .late else p.aux
    card :=
      if m.card.enabled ∧ slot = m.card.slot ∧ p.card = .none then (if high then .present else .missing)
      else p.card }

/-- R6, R95, R98: what a Seal value becomes where a stroke or an abort would write `new`. -/
def SealMark.after (old new : SealMark) : SealMark :=
  match old with
  | .none => new
  | .judged _ dose => .double dose
  | .aborted => .double 0
  | .double dose => .double dose

/-- R84: a lane of a stroke that writes: it has a captured serial and a recipe used. -/
def StrokeLane.targets (l : StrokeLane) (n : Serial) : Prop := l.serial = some n ∧ l.used.isSome = true

/-- R98: a PRODUCT record as the abort of the stroke in flight, if any, leaves it: a target's Seal takes ABORTED, or
DOUBLE; every other record is as it was. -/
def State.abortMark (s : State) (p : Product) : Product :=
  match s.stroke.phase.stroke? with
  | none => p
  | some k =>
    if (lanesBelow k.laneCount).any fun n =>
      (k.lanes.get n).serial == some p.serial && (k.lanes.get n).used.isSome then
      { p with heatSeal := p.heatSeal.after .aborted }
    else p

/-! ## Readiness and verification -/

/-- R72: the ready state that a lane's samples have under a recipe, if any. -/
def ReadyState.holds (recipe : Option Recipe) (l : LaneSamples) : ReadyState → Prop
  | .noRecipe => recipe = none
  | .fault => recipe.isSome = true ∧ l.faulted = true
  | .unknown => recipe.isSome = true ∧ l.faulted = false ∧ l.buffer.length < 8
  | .cold => l.faulted = false ∧ 8 ≤ l.buffer.length ∧
      ∃ r, recipe = some r ∧ l.buffer.sum / 8 < r.limits.tAct + r.margin
  | .hot => l.faulted = false ∧ 8 ≤ l.buffer.length ∧
      ∃ r, recipe = some r ∧ r.limits.tAct + r.margin ≤ l.buffer.sum / 8 ∧ r.limits.tMax < l.buffer.sum / 8
  | .ready => l.faulted = false ∧ 8 ≤ l.buffer.length ∧
      ∃ r, recipe = some r ∧ r.limits.tAct + r.margin ≤ l.buffer.sum / 8 ∧ l.buffer.sum / 8 ≤ r.limits.tMax

/-- R72, R73: a lane's ready state is the one its samples and its assigned recipe give. -/
def State.readyJudged (s : State) (lane : Lane) : Prop :=
  (s.acq.lanes.get lane).ready.holds ((s.assignedRecipe lane).map (·.2)) (s.acq.lanes.get lane)

/-- R74: a lane below N whose ready state in `t` is not the one it held in `s`. -/
def State.readyMoved (s t : State) : Prop :=
  ∃ lane : Lane, lane.val < t.web.lanes ∧ (t.acq.lanes.get lane).ready ≠ (s.acq.lanes.get lane).ready

/-- R160: the state that verifying a block gives it. -/
def Block.verifiesTo {α : Type} (b : Block α) (rangeFault : α → Option Nat) : BlockState → Prop
  | .empty => b.contents = none ∧ b.openMark = false
  | .invalid => b.openMark = true ∨ ∃ c, b.contents = some c ∧ (b.checkMatches = false ∨ rangeFault c ≠ none)
  | .valid => b.openMark = false ∧ b.checkMatches = true ∧ ∃ c, b.contents = some c ∧ rangeFault c = none
  | .unverified => False

/-- R163: a PRODUCT record on the track or the assignment of a lane below N names the slot. -/
def State.slotNamed (s : State) (slot : RecipeSlot) : Prop :=
  (∃ lane k p, s.recordAt lane k = some (.product p) ∧ p.recipe = slot) ∨
    ∃ lane : Lane, lane.val < s.web.lanes ∧ s.mode.assignments.get lane = some slot

/-- R130, R143: a lane has an assignment whose recipe block is VALID. -/
def State.assignedValid (s : State) (lane : Lane) : Prop :=
  ∃ slot, s.mode.assignments.get lane = some slot ∧ (s.store.recipes.get slot).state = .valid

end Sys2Proof.Machine

namespace Sys2Proof

/-- The command by which a good frame of a request completes on a port: the row of the opcode table it belongs to. -/
def Request.command (now : Time) (port : Port) : Request → Instr
  | .identify => .identify now port
  | .readLineStatus => .readLineStatus now port
  | .enterStandby => .enterStandby now port
  | .leaveStandby => .leaveStandby now port
  | .start => .start now port
  | .stop => .stop now port
  | .declareWebBreak => .declareWebBreak now port
  | .setLaneMask set => .setLaneMask now port set
  | .setLaneRecipe lane presence slot => .setLaneRecipe now port lane presence slot
  | .resetPart => .resetPart now port
  | .postVerdict station lane serial value detail => .postVerdict now port station lane serial value detail
  | .setHold lane serial => .setHold now port lane serial
  | .clearHold lane serial => .clearHold now port lane serial
  | .readRecord lane slot => .readRecord now port lane slot
  | .findSerial serial => .findSerial now port serial
  | .readPlane lane selector => .readPlane now port lane selector
  | .readStrokeReport => .readStrokeReport now port
  | .readPlatens => .readPlatens now port
  | .readDischargeLog first count => .readDischargeLog now port first count
  | .readEvents => .readEvents now port
  | .setEventEnable set => .setEventEnable now port set
  | .writeConfiguration contents => .writeConfiguration now port contents
  | .readConfiguration => .readConfiguration now port
  | .writeRecipe slot contents => .writeRecipe now port slot contents
  | .readRecipe slot => .readRecipe now port slot
  | .setPortMask target lane mask => .setPortMask now port target lane mask
  | .readPortMask target => .readPortMask now port target

/-- 7.1, R152: a field of a recipe passes its check, by its number. -/
def RecipeWire.fieldOk (r : RecipeWire) : Nat → Prop
  | 1 => r.name.first.e0 ≠ 0 ∧ (∀ c ∈ r.name.chars, c = 0 ∨ (0x20 ≤ c.toNat ∧ c.toNat ≤ 0x7E)) ∧
      ∀ i j, i < j → j < 12 → r.name.chars[i]? = some 0 → r.name.chars[j]? = some 0
  | 2 => 1 ≤ r.items.toNat ∧ r.items.toNat ≤ 12
  | 3 => r.required.getLsbD 6 = false ∧ r.required.getLsbD 7 = false
  | 4 => 500 ≤ r.tAct.toNat ∧ r.tAct.toNat ≤ 2500
  | 5 => r.tAct.toNat + 50 ≤ r.tMax.toNat ∧ r.tMax.toNat ≤ 3000
  | 6 => 10 ≤ r.eCap.toNat ∧ r.eCap.toNat ≤ 1000
  | 7 => r.margin.toNat ≤ 300
  | 8 => 1 ≤ r.pMin.toNat ∧ r.pMin.toNat ≤ 1000
  | 9 => 1 ≤ r.nMin.toNat ∧ r.nMin.toNat ≤ 2048
  | 10 => r.dMin.toNat ≤ 1048575
  | 11 => r.dMin.toNat ≤ r.dMax.toNat ∧ r.dMax.toNat ≤ 1048575
  | _ => True

/-- R154, R155: a windowed station's entry passes its check on a track of the length given. -/
def StationWire.windowedOk (e : StationWire) (length : Nat) : Prop :=
  (e.enabled = 0 ∨ e.enabled = 1) ∧ e.slot.toNat < length ∧ 1 ≤ e.window.toNat ∧ e.window.toNat ≤ 8 ∧
    (e.port.toNat ≤ 3 ∨ e.port = 0xFF) ∧ (e.enabled = 1 → e.slot.toNat + e.window.toNat + 2 ≤ length)

/-- 7.2, R154, R155: an item of a configuration passes its check, by its number. -/
def ConfigWire.itemOk (c : ConfigWire) : Nat → Prop
  | 1 => 1 ≤ c.lanes.toNat ∧ c.lanes.toNat ≤ 4
  | 2 => 8 ≤ c.length.toNat ∧ c.length.toNat ≤ 48
  | 3 => 20 ≤ c.minInterval.toNat ∧ c.minInterval.toNat ≤ 1000
  | 4 => 5 ≤ c.rejectWidth.toNat ∧ c.rejectWidth.toNat ≤ 250
  | 5 => c.form.windowedOk c.length.toNat
  | 6 => c.load.windowedOk c.length.toNat
  | 7 => (c.card.enabled = 0 ∨ c.card.enabled = 1) ∧ c.card.slot.toNat < c.length.toNat ∧ c.card.window = 0 ∧
      c.card.port = 0xFF ∧ (c.card.enabled = 1 → c.card.slot.toNat + 2 ≤ c.length.toNat)
  | 8 => (c.heatSeal.enabled = 0 ∨ c.heatSeal.enabled = 1) ∧ c.heatSeal.slot.toNat < c.length.toNat ∧
      c.heatSeal.window = 0 ∧ (c.heatSeal.port.toNat ≤ 3 ∨ c.heatSeal.port = 0xFF) ∧
      (c.heatSeal.enabled = 1 → c.heatSeal.slot.toNat + 3 ≤ c.length.toNat)
  | 9 => c.inspect.windowedOk c.length.toNat
  | 10 => c.aux.windowedOk c.length.toNat
  | 11 => c.gatePort.toNat ≤ 3 ∨ c.gatePort = 0xFF
  | 12 => ∀ port lane, let b := (c.masks.get port).get lane
      b.getLsbD 2 = false ∧ b.getLsbD 3 = false ∧ b.getLsbD 7 = false
  | 13 => ∀ port, ((c.enables.get port).extractLsb' 10 6) = 0
  | 14 => ∀ port, (c.bauds.get port).toNat ≤ 3
  | 15 => ∀ n, c.laneMask.getLsbD n = true → n < c.lanes.toNat
  | 16 => ∀ lane, (c.assignments.get lane).toNat ≤ 15 ∨ c.assignments.get lane = 0xFF
  | 17 => (∀ lane, -500 ≤ (c.base.get lane).toInt ∧ (c.base.get lane).toInt ≤ 500) ∧
      (∀ lane, 1 ≤ (c.span.get lane).toNat ∧ (c.span.get lane).toNat ≤ 8191) ∧
      (1 ≤ c.pspan.toNat ∧ c.pspan.toNat ≤ 4000) ∧ c.refExpected.toNat ≤ 4095 ∧
      (1 ≤ c.refTolerance.toNat ∧ c.refTolerance.toNat ≤ 200)
  | 18 => c.deadline.toNat ≤ 3
  | _ => True

end Sys2Proof

namespace Sys2Proof.Machine

/-- R65: a REF code judged under a calibration. -/
def referenceOk (cal : Calibration) (c : RawCode) : Bool :=
  decide (((c.toNat : Int) - cal.refExpected).natAbs ≤ cal.refTolerance)

/-- R159: the configuration supplied at a reset. -/
def RecipeStore.supplies (r : RecipeStore) (c : Configuration) : Prop :=
  (∃ w, r.config.contents = some w ∧ configFault w = none ∧ c = configurationOf w) ∨
    ((∀ w, r.config.contents = some w → configFault w ≠ none) ∧ c = factoryDefault)

/-! ## Invariants -/

/-- R1: the geometry lies in its ranges, every lane below N has exactly L records and no other lane has any. -/
def WebTrack.shaped (w : WebTrack) : Prop :=
  1 ≤ w.lanes ∧ w.lanes ≤ 4 ∧ 8 ≤ w.length ∧ w.length ≤ 48 ∧
    ∀ lane : Lane, (w.rows.get lane).length = if lane.val < w.lanes then w.length else 0

/-- R33, R155: every enabled station stands where its writes land before the gate slot. -/
def StationMap.placed (m : StationMap) (length : Nat) : Prop :=
  (∀ st : PortStation, (m.entry st).enabled = true →
    1 ≤ (m.entry st).window ∧ (m.entry st).slot + (m.entry st).window + 2 ≤ length) ∧
  (m.card.enabled = true → m.card.slot + 2 ≤ length) ∧
  (m.heatSeal.enabled = true → m.heatSeal.slot + 3 ≤ length)

/-- R162, R164: the contents of a write in flight have passed their checks. -/
def RecipeStore.engineChecked (r : RecipeStore) : Prop :=
  ∀ w, r.engine = some w →
    match w.target with
    | .configuration c => configFault c = none
    | .recipe _ c => recipeFault c = none

/-- The geometry of the track, the placement of the stations on it, and the checked contents that the next
configuration would bring. -/
def State.geometryInv (s : State) : Prop :=
  s.web.shaped ∧ s.verdict.stations.placed s.web.length ∧ s.store.engineChecked

/-- How many serials have been issued since a serial was, counting that issue: the counter's distance from it
around its cycle of 16,777,215 values (R11). -/
def serialAge (counter n : Serial) : Nat := (counter.toNat + 16777215 - n.toNat) % 16777215

/-- R11, R12: the counter and every serial on the track are nonzero; a record at slot k was among the last
N * (k + 1) issues; no two PRODUCT records carry one serial, and no two lanes of a stroke captured one. -/
def State.serialInv (s : State) : Prop :=
  s.web.nextSerial ≠ 0 ∧
  (∀ lane slot p, s.recordAt lane slot = some (.product p) →
    p.serial ≠ 0 ∧ 1 ≤ serialAge s.web.nextSerial p.serial ∧
      serialAge s.web.nextSerial p.serial ≤ s.web.lanes * (slot + 1)) ∧
  (∀ lane slot p lane' slot' p', s.recordAt lane slot = some (.product p) →
    s.recordAt lane' slot' = some (.product p') → p.serial = p'.serial → lane = lane' ∧ slot = slot') ∧
  (∀ k n n' x, s.stroke.phase.stroke? = some k → (k.lanes.get n).serial = some x →
    (k.lanes.get n').serial = some x → n = n')

/-- R83, R98: a serial that the stroke in flight captured is one of the latest 4 x 48 issues, and the PRODUCT record that
carries it, where it is still on the track, stands at the SEAL slot of the lane it was captured in. -/
def State.captureInv (s : State) : Prop :=
  ∀ k n x, s.stroke.phase.stroke? = some k → (k.lanes.get n).serial = some x →
    x ≠ 0 ∧ 1 ≤ serialAge s.web.nextSerial x ∧ serialAge s.web.nextSerial x ≤ 192 ∧
    ∀ lane slot p, s.recordAt lane slot = some (.product p) → p.serial = x →
      lane = n ∧ s.verdict.stations.heatSeal.enabled = true ∧ slot = s.verdict.stations.heatSeal.slot

/-- R115: at most 64 entries, their sequence numbers running consecutively up to the next sequence number;
R108, R114: an entry is ACCEPTED exactly when its cause list is empty, and the list holds at most seven. -/
def Gate.logInv (g : Gate) : Prop :=
  g.log.length ≤ 64 ∧
  (∀ (k : Nat) (e : LogEntry), g.log[k]? = some e →
    e.seq = g.nextSeq - BitVec.ofNat 32 g.log.length + BitVec.ofNat 32 k) ∧
  (∀ e ∈ g.log, (e.disposition = .accepted ↔ e.causes = []) ∧ e.causes.length ≤ 7)

/-- R124, with what it rests on: in RUN and DRAIN the configuration is VALID and every masked lane is assigned
a VALID recipe; no configuration is being written there; masked lanes lie below N; and a recipe slot being
written is no lane's assignment (R163). -/
def State.modeLaw (s : State) : Prop :=
  (s.mode.mode.producing = true →
    s.mode.configState = .valid ∧ s.store.writingConfiguration = false ∧
    ∀ lane : Lane, s.mode.laneMask.get lane = true →
      ∃ slot, s.mode.assignments.get lane = some slot ∧ (s.store.recipes.get slot).state = .valid) ∧
  (∀ lane : Lane, s.mode.laneMask.get lane = true → lane.val < s.web.lanes) ∧
  (∀ (lane : Lane) (slot : RecipeSlot), lane.val < s.web.lanes → s.store.writingRecipe slot = true →
    s.mode.assignments.get lane ≠ some slot)

/-- R68, R69: a buffer holds at most eight temperatures of 0..3000, and a lane with its fault mark set has
fewer than eight. -/
def LaneSamples.inv (l : LaneSamples) : Prop :=
  l.buffer.length ≤ 8 ∧ (∀ t ∈ l.buffer, t ≤ 3000) ∧ (l.faulted = true → l.buffer.length < 8)

/-- R89, R90: a stroke lane's dwell is at most the rounds taken, its dose and peak lie in their ranges. -/
def StrokeLane.inv (l : StrokeLane) (rounds : Nat) : Prop :=
  l.dwell ≤ rounds ∧ l.dose ≤ 1048575 ∧ ∀ t, l.peak = some t → t ≤ 3000

/-- R79, R91: in SAMPLING fewer than 2048 rounds have been taken and the stroke is not LONG; in CAPPED 2048
have and it is. -/
def StrokePhase.inv : StrokePhase → Prop
  | .idle => True
  | .sampling _ k => k.rounds < 2048 ∧ k.long = false ∧ ∀ n, (k.lanes.get n).inv k.rounds
  | .capped k => k.rounds = 2048 ∧ k.long = true ∧ ∀ n, (k.lanes.get n).inv k.rounds

/-- The samples of every lane and the stroke in flight lie in their ranges. -/
def State.samplesInv (s : State) : Prop :=
  (∀ n, (s.acq.lanes.get n).inv) ∧ s.stroke.phase.inv

/-- R67, R70, R71, R80, R135: a self-check is in progress only in WAKING; a stroke is in flight only in SETUP,
RUN and DRAIN; and the idle pass timer runs exactly in those modes with no stroke in flight. -/
def State.samplingInv (s : State) : Prop :=
  (s.mode.wake.isSome = true → s.mode.mode = .waking) ∧
  (s.stroke.phase ≠ .idle → s.mode.mode.active = true) ∧
  (s.acq.idleDue.isSome = true ↔ s.mode.mode.active = true ∧ s.stroke.phase = .idle)

/-- R171, R177: a frame is held, and a transmitter keeps an old baud, only while a response is being sent. -/
def StationPort.inv (p : StationPort) : Prop :=
  (p.held.isSome = true → p.sending.isSome = true) ∧ (p.txBaud ≠ p.rxBaud → p.sending.isSome = true)

/-- R188, R190: a store result is held exactly while STORE_DONE is set. -/
def PortEvents.inv (e : PortEvents) : Prop :=
  e.storeResult.isSome = true ↔ e.flags.getLsbD EventFlag.storeDone.bit = true

/-- The ports and their events. -/
def State.portsInv (s : State) : Prop := ∀ p, (s.ports.get p).inv ∧ (s.events.get p).inv

/-- R163: a recipe slot that the engine is writing is named by no PRODUCT record and by no assignment of a
lane below N. -/
def State.storeLaw (s : State) : Prop :=
  ∀ slot, s.store.writingRecipe slot = true → s.slotInUse slot = false

end Sys2Proof.Machine
end

