-- ==== Sys2Proof/Certificates/Slice0/Obligations.lean ====
section
/-! DEFINITION. The statements for the provers. Each says, for every state that meets its hypotheses, what a
command of the TK-48 answers. A request's statement is about a port that is idle (R177); what a busy port does
with a frame is `FramesTakenInTurn`, and how bytes become a frame is `FrameReceivedByteByByte`. -/

open Sys2Proof Sys2Proof.Machine

/-! ## The queue -/

/-- A step takes the command at the front of the queue and runs it with the queue's rest. On an empty queue the
block idles: that clause is the model's choice (assumption 4). -/
def Obligations.StepTakesFrontCommand : Prop :=
  (∀ (c : Instr) (rest : List Instr) (s : State),
    step { s with pending := c :: rest } = exec c { s with pending := rest }) ∧
  ∀ s : State, s.pending = [] → step s = .next s

/-- No command stops the part: each one, in every state, answers a next state, and leaves the queue alone. That the manual's
silence on any condition that stops the part means that none does is the model's reading (assumption 26). What a command's own
effect is, the statements below say. -/
def Obligations.EveryCommandAnswersNext : Prop :=
  ∀ (c : Instr) (s : State), ∃ t, exec c s = .next t ∧ t.pending = s.pending

/-! ## The Web Track -/

/-- R15: an INDEX edge before the minimum interval has passed changes nothing but GLITCH, on every port. -/
def Obligations.IndexEdgeIgnored : Prop :=
  ∀ (now last : Time) (cards : Quad Bool) (s : State), s.resetHeld = false →
    s.web.lastTaken = some last → now < last + ms s.web.minInterval →
    exec (.indexEdge now cards) s =
      .next { s with events := s.flagging 0x080 }

/-- R17, R22: a taken INDEX edge in STANDBY or WAKING loses the track at its own geometry and counts the edge;
TRACK_LOST goes on every port and nothing else changes. -/
def Obligations.IndexEdgeFrozenLosesTrack : Prop :=
  ∀ (now : Time) (cards : Quad Bool) (s : State), s.resetHeld = false → s.edgeTaken now →
    (s.mode.mode = .standby ∨ s.mode.mode = .waking) →
    exec (.indexEdge now cards) s =
      .next
        { s with
          web :=
            { s.web with
              rows := Quad.ofFn fun lane =>
                if lane.val < s.web.lanes then List.replicate s.web.length .untracked else []
              indexCount := s.web.indexCount + 1
              lastTaken := some now }
          events := s.flagging 0x040 }

/-- R11, R13, R17, R18, R19, R21, R38, R51, R133: a taken INDEX edge in SETUP, RUN or DRAIN, whether or not it aborts a
stroke. In every lane the record at slot L-1 leaves, every other moves one slot on, and the entry record comes in at slot 0,
its serial dealt in lane order; on the shifted track the windows close, the cards are sampled, a stroke in flight marks its
targets' Seal (R98), and nothing else in any record changes; the entry record takes no such mark. In DRAIN the mode becomes
SETUP when no PRODUCT record is left. What a stroke in flight leaves in its report is `IndexAbortsStroke`, the gate's part
is `IndexDecidesAtGate`, the flags are `IndexRaisesFlags`; every other block is as it was. The premises on a stroke in
flight are invariants (`StepKeepsGeometryInv`, `StepKeepsSerialInv`). -/
def Obligations.IndexShiftsTrack : Prop :=
  ∀ (now : Time) (cards : Quad Bool) (s : State), s.resetHeld = false → s.edgeTaken now →
    s.mode.mode.active = true → s.web.shaped →
    (s.stroke.phase ≠ .idle → s.geometryInv ∧ s.serialInv ∧ s.captureInv) →
    (∀ lane ∈ s.entryLanes, (s.mode.assignments.get lane).isSome = true) →
    ∃ t, exec (.indexEdge now cards) s = .next t ∧
      t.web =
        { s.web with
          indexCount := s.web.indexCount + 1
          lastTaken := some now
          nextSerial := serialAfterIssues s.entryLanes.length s.web.nextSerial
          rows := Quad.ofFn fun lane =>
            if lane.val < s.web.lanes then
              (s.entryFor lane :: (s.web.rows.get lane).dropLast.map (Record.onProduct s.abortMark)).mapIdx fun slot r =>
                r.onProduct (Product.brought s.verdict.stations (cards.get lane) slot)
            else [] } ∧
      (s.stroke.phase = .idle → t.acq = s.acq ∧ t.stroke = s.stroke) ∧
      (s.stroke.phase ≠ .idle →
        t.acq = { s.acq with idleDue := some (now + ms 50) } ∧
        t.stroke = { s.stroke with phase := .idle, report := t.stroke.report }) ∧
      ((s.mode.mode = .drain ∧ t.noProduct) → t.mode = { s.mode with mode := .setup }) ∧
      (¬(s.mode.mode = .drain ∧ t.noProduct) → t.mode = s.mode) ∧
      t.verdict = s.verdict ∧ t.store = s.store ∧ t.ports = s.ports ∧ t.resetHeld = s.resetHeld ∧ t.pending = s.pending

/-- R38, R39, R102, R117, R133: the flags a taken INDEX edge raises in SETUP, RUN or DRAIN, and no others: ARRIVAL and LATE
on the report ports of the stations concerned, GATE on the gate report port, STROKE on the SEAL report port when it aborts a
stroke, and MODE on every port when a drain completes. -/
def Obligations.IndexRaisesFlags : Prop :=
  ∀ (now : Time) (cards : Quad Bool) (s : State), s.resetHeld = false → s.edgeTaken now →
    s.mode.mode.active = true → s.geometryInv →
    ∃ t, exec (.indexEdge now cards) s = .next t ∧
      s.raises t fun p f =>
        match f with
        | .arrival => ∃ st : PortStation, (s.verdict.stations.entry st).enabled = true ∧
            (s.verdict.stations.entry st).port = some p ∧
            ∃ lane q, t.recordAt lane (s.verdict.stations.entry st).slot = some (.product q)
        | .late => ∃ st : PortStation, (s.verdict.stations.entry st).enabled = true ∧
            (s.verdict.stations.entry st).port = some p ∧
            ∃ lane q, s.recordAt lane ((s.verdict.stations.entry st).slot +
              (s.verdict.stations.entry st).window - 1) = some (.product q) ∧ q.unwritten st = true
        | .gate => s.gate.reportPort = some p
        | .mode => s.mode.mode = .drain ∧ t.noProduct
        | .stroke => s.stroke.phase ≠ .idle ∧ s.verdict.stations.heatSeal.port = some p
        | .readyChange => False
        | .trackLost => False
        | .glitch => False
        | .storeDone => False
        | .resetDone => False

/-- R20, R98, R105, R111, R112, R114, R115: the gate's work at a taken INDEX edge in SETUP, RUN or DRAIN, whether or not it
aborts a stroke: every running pulse ends, each lane below N is decided on the record the index brings to slot L-1, which no
abort marks in that index, a REJECTED lane's pulse runs for the configured width from the index, and N entries are appended
in lane order to a log that keeps the newest 64, each with the items of R114's table. The cause list is
`GateDecisionRule`'s; the premises on a stroke in flight are invariants (`StepKeepsSerialInv`). -/
def Obligations.IndexDecidesAtGate : Prop :=
  ∀ (now : Time) (cards : Quad Bool) (s : State), s.resetHeld = false → s.edgeTaken now →
    s.mode.mode.active = true → s.geometryInv → s.gate.logInv →
    (s.stroke.phase ≠ .idle → s.serialInv ∧ s.captureInv) →
    ∃ t, exec (.indexEdge now cards) s = .next t ∧
      t.gate.rejectWidth = s.gate.rejectWidth ∧ t.gate.reportPort = s.gate.reportPort ∧
      t.gate.nextSeq = s.gate.nextSeq + BitVec.ofNat 32 s.web.lanes ∧
      (∀ lane : Lane, s.web.lanes ≤ lane.val → t.gate.pulses.get lane = none) ∧
      ∃ brought : Lane → Record,
        (∀ lane : Lane, lane.val < s.web.lanes →
          s.recordAt lane (s.web.length - 2) = some (brought lane) ∧
          t.recordAt lane (s.web.length - 1) = some (brought lane) ∧
          t.gate.pulses.get lane =
            if causesOf s.verdict.stations s.store (brought lane) = [] then none
            else some (now + ms s.gate.rejectWidth)) ∧
        t.gate.log =
          (s.gate.log ++ (lanesBelow s.web.lanes).map fun lane =>
            ({
              seq := s.gate.nextSeq + BitVec.ofNat 32 lane.val
              indexCount := s.web.indexCount + 1
              lane := lane
              kind :=
                match brought lane with
                | .product _ => .product
                | .void => .void
                | .untracked => .untracked
              serial :=
                match brought lane with
                | .product p => some p.serial
                | .void => none
                | .untracked => none
              recipe :=
                match brought lane with
                | .product p => some p.recipe
                | .void => none
                | .untracked => none
              disposition :=
                if causesOf s.verdict.stations s.store (brought lane) = [] then .accepted else .rejected
              causes := causesOf s.verdict.stations s.store (brought lane)
              dose :=
                match brought lane with
                | .product p =>
                  (match p.heatSeal with
                  | .none => none
                  | .judged _ dose => some dose
                  | .aborted => none
                  | .double dose => some dose)
                | .void => none
                | .untracked => none } : LogEntry)).drop (s.gate.log.length + s.web.lanes - 64)

/-- R98, R101, R102: a taken INDEX edge in SETUP, RUN or DRAIN aborts the stroke in flight. Its report is published with
the sums as they stand and every evaluated lane ABORTED, STROKE goes on the SEAL report port, the idle pass timer
restarts, and each target's record, one slot further on, takes ABORTED, or DOUBLE with the dose of its first value;
no other record's Seal changes. The rest of what such an index does, entry records, windows, cards, counters, gate, log, mode
and the exact flags, is in the three statements above. -/
def Obligations.IndexAbortsStroke : Prop :=
  ∀ (now : Time) (cards : Quad Bool) (k : Stroke) (s : State), s.resetHeld = false → s.edgeTaken now →
    s.mode.mode.active = true → s.geometryInv → s.serialInv → s.stroke.phase.stroke? = some k →
    ∃ t, exec (.indexEdge now cards) s = .next t ∧
      t.stroke =
        { phase := .idle
          number := s.stroke.number
          report := some
            { number := k.number
              endKind := .aborted
              refOk := k.refOk
              long := k.long
              lanes := (lanesBelow k.laneCount).map fun n =>
                { serial := (k.lanes.get n).serial
                  recipe := (k.lanes.get n).used.map (·.1)
                  rounds := if (k.lanes.get n).used.isSome then k.rounds else 0
                  dwell := (k.lanes.get n).dwell
                  dose := (k.lanes.get n).dose
                  peak := (k.lanes.get n).peak
                  verdict := if (k.lanes.get n).used.isSome then .aborted else .none } } } ∧
      t.acq = { s.acq with idleDue := some (now + ms 50) } ∧
      (∀ p, s.verdict.stations.heatSeal.port = some p → t.flagSet p .stroke) ∧
      ∀ lane slot p, slot + 1 < s.web.length → s.recordAt lane slot = some (.product p) →
        ∃ q, t.recordAt lane (slot + 1) = some (.product q) ∧ q.serial = p.serial ∧ q.recipe = p.recipe ∧
          q.hold = p.hold ∧
          ((∃ n : Lane, n.val < k.laneCount ∧ (k.lanes.get n).targets p.serial) →
            q.heatSeal = p.heatSeal.after .aborted) ∧
          ((¬∃ n : Lane, n.val < k.laneCount ∧ (k.lanes.get n).targets p.serial) → q.heatSeal = p.heatSeal)

/-- R11, R12, R83, R98: every step keeps the serials of the track distinct, nonzero, and within the issues that their slots
allow; and with that, the serials that the stroke in flight captured, each still at the SEAL slot of its lane where it is on
the track at all. -/
def Obligations.StepKeepsSerialInv : Prop :=
  ∀ s t : State, s.geometryInv → s.serialInv → step s = .next t →
    t.serialInv ∧ (s.captureInv → t.captureInv)

/-- R1, R33, R155: every step keeps the track N x L in its ranges and the stations in force on it. -/
def Obligations.StepKeepsGeometryInv : Prop :=
  ∀ s t : State, s.geometryInv → step s = .next t → t.geometryInv

/-- Reset meets every invariant. -/
def Obligations.ResetMeetsInvariants : Prop :=
  State.reset.geometryInv ∧ State.reset.serialInv ∧ State.reset.captureInv ∧
    State.reset.gate.logInv ∧ State.reset.modeLaw ∧ State.reset.samplesInv ∧
    State.reset.samplingInv ∧ State.reset.portsInv ∧ State.reset.storeLaw

/-- R185, R186, R187: the layouts of a pocket record (19 bytes), a discharge log entry (27 bytes) and a stroke report
lane entry (15 bytes), offset by offset. -/
def Obligations.WireLayouts : Prop :=
  (∀ p : Product,
    (Record.product p).bytes =
      [1, p.serial.extractLsb' 0 8, p.serial.extractLsb' 8 8, p.serial.extractLsb' 16 8, byteOf p.recipe.val,
        p.form.code, p.form.detail, p.load.code, p.load.count, p.card.code, p.heatSeal.code,
        byteOf (p.heatSeal.dose.getD 0), byteOf (p.heatSeal.dose.getD 0 / 256),
        byteOf (p.heatSeal.dose.getD 0 / 65536),
        p.inspect.code, p.inspect.detail, p.aux.code, p.aux.detail,
        match p.hold with
        | none => 0
        | some port => byteOf (port.val + 1)]) ∧
  Record.void.bytes = 2 :: List.replicate 18 0 ∧ Record.untracked.bytes = 3 :: List.replicate 18 0 ∧
  (∀ e : LogEntry, e.causes.length ≤ 7 →
    e.bytes.length = 27 ∧ longAt e.bytes 0 = e.seq ∧ longAt e.bytes 4 = e.indexCount ∧
    byteAt e.bytes 8 = byteOf e.lane.val ∧ byteAt e.bytes 9 = e.kind.code ∧
    (byteAt e.bytes 10).getLsbD 0 = e.serial.isSome ∧ (byteAt e.bytes 10).getLsbD 1 = e.dose.isSome ∧
    byteAt e.bytes 10 ≤ 3 ∧
    tripleAt e.bytes 11 = e.serial.getD 0 ∧ byteAt e.bytes 14 = byteOf ((e.recipe.map (·.val)).getD 0) ∧
    byteAt e.bytes 15 = e.disposition.code ∧ byteAt e.bytes 16 = byteOf e.causes.length ∧
    (∀ i, i < 7 → byteAt e.bytes (17 + i) = ((e.causes[i]?).map Cause.code).getD 0) ∧
    tripleAt e.bytes 24 = BitVec.ofNat 24 (e.dose.getD 0)) ∧
  ∀ e : LaneReport,
    e.bytes.length = 15 ∧
    (byteAt e.bytes 0).getLsbD 0 = e.serial.isSome ∧ (byteAt e.bytes 0).getLsbD 1 = e.recipe.isSome ∧
    (byteAt e.bytes 0).getLsbD 2 = e.peak.isSome ∧ byteAt e.bytes 0 ≤ 7 ∧
    tripleAt e.bytes 1 = e.serial.getD 0 ∧ byteAt e.bytes 4 = byteOf ((e.recipe.map (·.val)).getD 0) ∧
    wordAt e.bytes 5 = BitVec.ofNat 16 e.rounds ∧ wordAt e.bytes 7 = BitVec.ofNat 16 e.dwell ∧
    tripleAt e.bytes 9 = BitVec.ofNat 24 e.dose ∧ wordAt e.bytes 12 = BitVec.ofNat 16 (e.peak.getD 0) ∧
    byteAt e.bytes 14 = e.verdict.code

/-- R25, R72, R101, R108, R109, R114, R151, R180, R188, R190: the codes that record fields, ready states, reports, log
entries, line status and responses carry, the qualifiers a field reads with, and the bits of the event flags. -/
def Obligations.WireCodes : Prop :=
  [Kind.product, .void, .untracked].map Kind.code = [1, 2, 3] ∧
  (∀ d, [Verdict.none, .pass, .fail d, .late].map (fun v => (v.code, v.detail)) = [(0, 0), (1, 0), (2, d), (3, 0)]) ∧
  (∀ c, [LoadVerdict.none, .pass c, .fail c, .late].map (fun v => (v.code, v.count)) =
    [(0, 0), (1, c), (2, c), (3, 0)]) ∧
  [CardMark.none, .present, .missing].map CardMark.code = [0, 1, 2] ∧
  (∀ d, [SealMark.none, .judged .pass d, .judged .under d, .judged .over d, .judged .short d, .judged .hot d,
      .judged .sensor d, .aborted, .double d].map (fun v => (v.code, v.dose)) =
    [(0, none), (1, some d), (2, some d), (3, some d), (4, some d), (5, some d), (6, some d), (7, none),
      (8, some d)]) ∧
  (∀ v d, (ReportVerdict.judged v).code = (SealMark.judged v d).code) ∧ ReportVerdict.none.code = 0 ∧
  ReportVerdict.aborted.code = 7 ∧
  [Mode.standby, .waking, .setup, .run, .drain].map Mode.code = [1, 2, 3, 4, 5] ∧
  [ConfigState.valid, .invalid, .unverified].map ConfigState.code = [1, 2, 3] ∧
  [BlockState.empty, .valid, .invalid, .unverified].map BlockState.code = [0, 1, 2, 3] ∧
  [ReadyState.noRecipe, .unknown, .fault, .cold, .hot, .ready].map ReadyState.code = [0, 1, 2, 3, 4, 5] ∧
  [EndKind.complete, .aborted].map EndKind.code = [1, 2] ∧
  [Disposition.accepted, .rejected].map Disposition.code = [1, 2] ∧
  [Cause.held, .form, .load, .card, .heatSeal, .inspect, .aux, .untracked, .void].map Cause.code =
    [1, 2, 3, 4, 5, 6, 7, 8, 9] ∧
  [StoreResult.ok, .timeout].map StoreResult.code = [1, 2] ∧
  [Status.ok, .unknown, .badCheck, .badLength, .badValue, .busy, .standby, .wrongMode, .denied, .notFound, .early,
      .tooLate, .already, .inUse, .notReady, .configInvalid, .recipeInvalid].map Status.code =
    (List.range 17).map (BitVec.ofNat 8) ∧
  [EventFlag.arrival, .late, .stroke, .readyChange, .gate, .mode, .trackLost, .glitch, .storeDone,
    .resetDone].map EventFlag.bit = List.range 10

/-- R26, R27, R28: the reads of the track, BUSY in WAKING. Read Record and Read Plane check the lane first, then the slot or the
selector, and answer the record, or the lane's L elements in slot order. Find Serial refuses a serial of 0, answers the lane, slot
and record of the PRODUCT record with the serial, and NOT_FOUND where there is none. None changes anything but the port. -/
def Obligations.TrackReads : Prop :=
  (∀ (now : Time) (port : Port) (lane slot selector : Byte) (s : State), s.portIdle port → s.web.shaped →
     exec (.readRecord now port lane slot) s =
       .next
         (if s.mode.mode = .waking then s.answering port 0x28 .busy []
         else if s.web.lanes ≤ lane.toNat then s.answering port 0x28 .badValue []
         else
           match s.recordAt (Fin.ofNat 4 lane.toNat) slot.toNat with
           | some r => s.answering port 0x28 .ok r.bytes
           | none => s.answering port 0x28 .badValue []) ∧
     exec (.readPlane now port lane selector) s =
       .next
         (if s.mode.mode = .waking then s.answering port 0x2A .busy []
         else if s.web.lanes ≤ lane.toNat then s.answering port 0x2A .badValue []
         else if selector = 0 ∨ 11 ≤ selector.toNat then s.answering port 0x2A .badValue []
         else
           s.answering port 0x2A .ok
             ([lane, selector, byteOf s.web.length] ++
               (s.web.rows.get (Fin.ofNat 4 lane.toNat)).flatMap fun r =>
                 match selector.toNat with
                 | 1 => [byteAt r.bytes 0]
                 | 2 => [byteAt r.bytes 1, byteAt r.bytes 2, byteAt r.bytes 3]
                 | 3 => [byteAt r.bytes 4]
                 | 4 => [byteAt r.bytes 5, byteAt r.bytes 6]
                 | 5 => [byteAt r.bytes 7, byteAt r.bytes 8]
                 | 6 => [byteAt r.bytes 9]
                 | 7 => [byteAt r.bytes 10, byteAt r.bytes 11, byteAt r.bytes 12, byteAt r.bytes 13]
                 | 8 => [byteAt r.bytes 14, byteAt r.bytes 15]
                 | 9 => [byteAt r.bytes 16, byteAt r.bytes 17]
                 | _ => [byteAt r.bytes 18]))) ∧
  ∀ (now : Time) (port : Port) (serial : Serial) (s : State), s.portIdle port → s.geometryInv → s.serialInv →
    (s.mode.mode = .waking →
      exec (.findSerial now port serial) s = .next (s.answering port 0x29 .busy [])) ∧
    (s.mode.mode ≠ .waking → serial = 0 →
      exec (.findSerial now port serial) s = .next (s.answering port 0x29 .badValue [])) ∧
    (∀ lane slot p, s.mode.mode ≠ .waking → s.recordAt lane slot = some (.product p) → p.serial = serial →
      exec (.findSerial now port serial) s =
        .next (s.answering port 0x29 .ok (byteOf lane.val :: byteOf slot :: (Record.product p).bytes))) ∧
    (s.mode.mode ≠ .waking → serial ≠ 0 →
      (∀ lane slot p, s.recordAt lane slot = some (.product p) → p.serial ≠ serial) →
      exec (.findSerial now port serial) s = .next (s.answering port 0x29 .notFound []))

/-! ## The Verdict Unit -/

/-- R42, R43, R44, R45: Post Verdict up to its search, in the order of its checks: BUSY in WAKING, BAD_VALUE for
parameters that do not name an enabled windowed station, a lane below N, a nonzero serial and a value that the
station takes, DENIED without the station in the port's mask for the lane, NOT_FOUND when no record of the lane
carries the serial. None changes anything but the port. -/
def Obligations.PostVerdictRefusedBeforeRecord : Prop :=
  ∀ (now : Time) (port : Port) (station lane : Byte) (serial : Serial) (value detail : Byte) (s : State),
    s.portIdle port → s.web.shaped →
    (s.mode.mode = .waking →
      exec (.postVerdict now port station lane serial value detail) s =
        .next (s.answering port 0x20 .busy [])) ∧
    (s.mode.mode ≠ .waking →
      (¬∃ st, station = st.code ∧ (s.verdict.stations.entry st).enabled = true ∧
        lane.toNat < s.web.lanes ∧ serial ≠ 0 ∧ st.takes value detail) →
      exec (.postVerdict now port station lane serial value detail) s =
        .next (s.answering port 0x20 .badValue [])) ∧
    ∀ (st : PortStation) (n : Lane), s.mode.mode ≠ .waking → station = st.code →
      (s.verdict.stations.entry st).enabled = true → lane.toNat = n.val → n.val < s.web.lanes →
      serial ≠ 0 → st.takes value detail →
      (((s.verdict.masks.get port).get n).permits st = false →
        exec (.postVerdict now port station lane serial value detail) s =
          .next (s.answering port 0x20 .denied [])) ∧
      (((s.verdict.masks.get port).get n).permits st = true →
        (∀ slot p, s.recordAt n slot = some (.product p) → p.serial ≠ serial) →
        exec (.postVerdict now port station lane serial value detail) s =
          .next (s.answering port 0x20 .notFound []))

/-- R46, R47, R48, R49: Post Verdict on the record it names. EARLY before the station's slot, TOO_LATE past its window,
ALREADY where the field is written, each with the record's slot and field as they stand; else the field is written (a Load
count is judged against Items of the record's own recipe, and FAIL when that recipe is not VALID), and nothing else
changes. -/
def Obligations.PostVerdictAtRecord : Prop :=
  ∀ (now : Time) (port : Port) (st : PortStation) (lane : Lane) (value detail : Byte) (slot : Nat)
      (p : Product) (s : State),
    s.portIdle port → s.geometryInv → s.serialInv → s.mode.mode ≠ .waking →
    (s.verdict.stations.entry st).enabled = true → st.takes value detail →
    ((s.verdict.masks.get port).get lane).permits st = true → s.recordAt lane slot = some (.product p) →
    exec (.postVerdict now port st.code (byteOf lane.val) p.serial value detail) s =
      .next
        (if slot < (s.verdict.stations.entry st).slot then
          s.answering port 0x20 .early (byteOf slot :: p.fieldBytes st)
        else if (s.verdict.stations.entry st).slot + (s.verdict.stations.entry st).window ≤ slot then
          s.answering port 0x20 .tooLate (byteOf slot :: p.fieldBytes st)
        else if p.unwritten st = false then
          s.answering port 0x20 .already (byteOf slot :: p.fieldBytes st)
        else
          let verdict : Verdict := if value = 1 then .pass else .fail detail
          let count : LoadVerdict :=
            if (s.store.recipe p.recipe).map (·.items) = some value.toNat then .pass value else .fail value
          let q : Product :=
            match st with
            | .form => { p with form := verdict }
            | .load => { p with load := count }
            | .inspect => { p with inspect := verdict }
            | .aux => { p with aux := verdict }
          ({ s with
              web :=
                { s.web with
                  rows := s.web.rows.set lane ((s.web.rows.get lane).set slot (.product q)) } }).answering
            port 0x20 .ok (byteOf slot :: q.fieldBytes st))

/-- R53, R54: Set Hold and Clear Hold. BUSY in WAKING, BAD_VALUE for a lane of N or more or a serial of 0, DENIED without
HOLD in the mask, NOT_FOUND without the record, TOO_LATE at the gate slot, ALREADY when there is nothing to do; else the
record's Hold becomes the posting port, or absent, and nothing else changes. -/
def Obligations.HoldRequests : Prop :=
  ∀ (now : Time) (port : Port) (lane : Byte) (serial : Serial) (s : State), s.portIdle port → s.geometryInv →
    s.serialInv → ∀ set : Bool,
    let command : Instr := if set then .setHold now port lane serial else .clearHold now port lane serial
    let code : Byte := if set then 0x21 else 0x22
    (s.mode.mode = .waking → exec command s = .next (s.answering port code .busy [])) ∧
    (s.mode.mode ≠ .waking → (s.web.lanes ≤ lane.toNat ∨ serial = 0) →
      exec command s = .next (s.answering port code .badValue [])) ∧
    ∀ n : Lane, s.mode.mode ≠ .waking → lane.toNat = n.val → n.val < s.web.lanes → serial ≠ 0 →
      (((s.verdict.masks.get port).get n).hold = false →
        exec command s = .next (s.answering port code .denied [])) ∧
      (((s.verdict.masks.get port).get n).hold = true →
        (∀ slot p, s.recordAt n slot = some (.product p) → p.serial ≠ serial) →
        exec command s = .next (s.answering port code .notFound [])) ∧
      ∀ slot p, ((s.verdict.masks.get port).get n).hold = true → s.recordAt n slot = some (.product p) →
        p.serial = serial →
        exec command s =
          .next
            (if slot + 1 = s.web.length then
              s.answering port code .tooLate [byteOf slot, holdCode p.hold]
            else if p.hold.isSome = set then s.answering port code .already [byteOf slot, holdCode p.hold]
            else
              ({ s with
                  web :=
                    { s.web with
                      rows := s.web.rows.set n
                        ((s.web.rows.get n).set slot
                          (.product { p with hold := if set then some port else none })) } }).answering
                port code .ok [byteOf slot, if set then byteOf (port.val + 1) else 0])

/-- R57, R58, R181: Set Port Mask, taken in SETUP, replaces one mask as a whole; Read Port Mask, taken in every mode,
answers a port's N masks, in each byte bit 0 FORM, bit 1 LOAD, bit 4 INSPECT, bit 5 AUX and bit 6 HOLD. -/
def Obligations.PortMaskRequests : Prop :=
  (∀ (now : Time) (port : Port) (target lane mask : Byte) (s : State), s.portIdle port → s.web.shaped →
    exec (.setPortMask now port target lane mask) s =
      .next
        (if s.mode.mode = .waking then s.answering port 0x4C .busy []
        else if s.mode.mode ≠ .setup then s.answering port 0x4C .wrongMode []
        else if 4 ≤ target.toNat ∨ s.web.lanes ≤ lane.toNat ∨ mask.getLsbD 2 ∨ mask.getLsbD 3 ∨ mask.getLsbD 7 then
          s.answering port 0x4C .badValue []
        else
          ({ s with
              verdict :=
                { s.verdict with
                  masks := s.verdict.masks.set (Fin.ofNat 4 target.toNat)
                    ((s.verdict.masks.get (Fin.ofNat 4 target.toNat)).set (Fin.ofNat 4 lane.toNat)
                      { form := mask.getLsbD 0
                        load := mask.getLsbD 1
                        inspect := mask.getLsbD 4
                        aux := mask.getLsbD 5
                        hold := mask.getLsbD 6 }) } }).answering port 0x4C .ok [])) ∧
  ∀ (now : Time) (port : Port) (target : Byte) (s : State), s.portIdle port →
    exec (.readPortMask now port target) s =
      .next
        (if 4 ≤ target.toNat then s.answering port 0x4D .badValue []
        else
          s.answering port 0x4D .ok
            (byteOf s.web.lanes ::
              (lanesBelow s.web.lanes).map fun lane =>
                let mask := (s.verdict.masks.get (Fin.ofNat 4 target.toNat)).get lane
                BitVec.ofNat 8
                  ((if mask.form then 1 else 0) + (if mask.load then 2 else 0) + (if mask.inspect then 16 else 0) +
                    (if mask.aux then 32 else 0) + if mask.hold then 64 else 0)))

/-! ## The Acquisition Unit -/

/-- R63, R64: what a converter code yields. A TEMP code of 8 or less, or of 4087 or more, is a fault sample; any other
yields c x span / 4096, truncated, plus base, clamped to 0..3000. A PRESS code of 4087 or more is a fault sample; any other
yields c x pspan / 4096, truncated and not clamped, so at most 3990. -/
def Obligations.ConverterCodes : Prop :=
  (∀ (cal : LaneCalibration) (c : RawCode),
    convertTemp cal c =
      if c.toNat ≤ 8 ∨ 4087 ≤ c.toNat then none
      else some (max 0 (min 3000 (((c.toNat * cal.span / 4096 : Nat) : Int) + cal.base))).toNat) ∧
  ∀ (cal : Calibration) (c : RawCode),
    (4087 ≤ c.toNat → convertPress cal c = none) ∧
    (c.toNat < 4087 → convertPress cal c = some (c.toNat * cal.pspan / 4096)) ∧
    (cal.pspan ≤ 4000 → ∀ p, convertPress cal c = some p → p ≤ 3990)

/-- R67, R68, R69, R72, R73, R74: an idle pass that has fallen due. Every lane below N takes its sample: a good one
enters the buffer, which keeps the last eight, and clears the fault mark when it makes eight; a fault sample empties the
buffer and sets the mark; the ready state is judged anew. READY_CHANGE goes on the SEAL report port when a lane's
state moved. The next pass falls due 50 ms after this one fell due, and nothing else changes. That it is counted from the time
this pass fell due, not from the time it is taken, is the model's reading (assumption 24). -/
def Obligations.IdlePassSamples : Prop :=
  ∀ (now due : Time) (temps : Quad RawCode) (s : State), s.resetHeld = false → s.samplesInv →
    s.acq.idleDue = some due → due ≤ now →
    ∃ t, exec (.idlePass now temps) s = .next t ∧
      (∀ lane : Lane, lane.val < s.web.lanes →
        (t.acq.lanes.get lane).lastRaw = some (temps.get lane) ∧ t.readyJudged lane ∧
        match convertTemp (s.acq.calibration.lanes.get lane) (temps.get lane) with
        | some good =>
          (t.acq.lanes.get lane).buffer =
            ((s.acq.lanes.get lane).buffer ++ [good]).drop ((s.acq.lanes.get lane).buffer.length - 7) ∧
          ((t.acq.lanes.get lane).faulted = true ↔
            (s.acq.lanes.get lane).faulted = true ∧ (t.acq.lanes.get lane).buffer.length < 8)
        | none => (t.acq.lanes.get lane).buffer = [] ∧ (t.acq.lanes.get lane).faulted = true) ∧
      (∀ lane : Lane, s.web.lanes ≤ lane.val → t.acq.lanes.get lane = s.acq.lanes.get lane) ∧
      s.raises t (fun p f =>
        f = .readyChange ∧ s.verdict.stations.heatSeal.port = some p ∧ s.readyMoved t) ∧
      t = { s with acq := { s.acq with lanes := t.acq.lanes, idleDue := some (due + ms 50) }, events := t.events }

/-- R68, R69, R79, R89, R90, R91: every step keeps samples, buffers, doses, dwells, peaks and round counts in their
ranges. -/
def Obligations.StepKeepsSamplesInv : Prop :=
  ∀ s t : State, s.samplesInv → step s = .next t → t.samplesInv

/-- R67, R70, R71, R80, R135: every step keeps idle sampling running exactly in SETUP, RUN and DRAIN with no stroke in
flight, a stroke in flight only in those modes, and a self-check in progress only in WAKING. -/
def Obligations.StepKeepsSamplingInv : Prop :=
  ∀ s t : State, s.samplingInv → step s = .next t → t.samplingInv

/-- R77, R103: Read Platens and Read Stroke Report, BUSY in WAKING. Read Platens answers the activity, each lane's ready
state, sample count, mean, fault mark and last raw code, the last PRESS code with its force, and the last reference result; Read
Stroke Report answers the in-flight mark, the most recent stroke number, and the last report if there is one, all in the
layouts of R182. The force is converted from the last raw code under the calibration in force at the read: that is the
model's reading (assumption 14). -/
def Obligations.MeasurementReads : Prop :=
  (∀ (now : Time) (port : Port) (s : State), s.portIdle port →
     exec (.readPlatens now port) s =
       .next
         (if s.mode.mode = .waking then s.answering port 0x31 .busy []
         else
           s.answering port 0x31 .ok
             ([if s.stroke.phase ≠ .idle then 2 else if s.mode.mode.active then 1 else 0, byteOf s.web.lanes] ++
               ((lanesBelow s.web.lanes).flatMap fun lane =>
                 let l := s.acq.lanes.get lane
                 let raw : BitVec 16 := ((l.lastRaw.map fun c => c.setWidth 16)).getD 0
                 if 8 ≤ l.buffer.length then
                   [l.ready.code, byteOf l.buffer.length, if l.lastRaw.isSome then 3 else 1] ++
                     le16 (BitVec.ofNat 16 (l.buffer.sum / 8)) ++ [if l.faulted then 1 else 0] ++ le16 raw
                 else
                   [l.ready.code, byteOf l.buffer.length, if l.lastRaw.isSome then 2 else 0, 0, 0,
                     if l.faulted then 1 else 0] ++ le16 raw) ++
               (match s.acq.pressRaw with
                 | none => [0, 0, 0, 0, 0]
                 | some c =>
                   if 4087 ≤ c.toNat then 1 :: (le16 (c.setWidth 16) ++ [0, 0])
                   else 3 :: (le16 (c.setWidth 16) ++
                     le16 (BitVec.ofNat 16 (c.toNat * s.acq.calibration.pspan / 4096)))) ++
               (match s.acq.reference with
                 | none => [0, 0, 0, 0, 0]
                 | some r =>
                   1 :: (le16 (r.code.setWidth 16) ++
                     [if r.ok then 1 else 0, match r.source with
                       | .wake => 1
                       | .stroke => 2]))))) ∧
  ∀ (now : Time) (port : Port) (s : State), s.portIdle port →
    exec (.readStrokeReport now port) s =
      .next
        (if s.mode.mode = .waking then s.answering port 0x30 .busy []
        else
          s.answering port 0x30 .ok
            ([if s.stroke.phase = .idle then 0 else 1] ++ le16 s.stroke.number ++
              match s.stroke.report with
              | none => [0]
              | some r =>
                [1] ++ le16 r.number ++
                  [match r.endKind with
                    | .complete => 1
                    | .aborted => 2,
                   if r.refOk then 1 else 0, if r.long then 1 else 0, byteOf r.lanes.length] ++
                  r.lanes.flatMap LaneReport.bytes))

/-! ## The Stroke Evaluator -/

/-- R80, R82, R83, R84, R85, R86: a rising SEAL edge with the evaluator IDLE. In SETUP, RUN and DRAIN a stroke starts: the
number advances, each lane below N captures the PRODUCT record at the SEAL slot with its own recipe, or else its
assigned recipe, as far as that is VALID, REF is judged, idle sampling stops, and the first round falls due 2 ms later.
In STANDBY and WAKING nothing happens. -/
def Obligations.StrokeStart : Prop :=
  ∀ (now : Time) (ref : RawCode) (s : State), s.resetHeld = false → s.stroke.phase = .idle →
    (s.mode.mode = .standby ∨ s.mode.mode = .waking → exec (.sealRisingEdge now ref) s = .next s) ∧
    (s.mode.mode = .setup ∨ s.mode.mode = .run ∨ s.mode.mode = .drain →
      exec (.sealRisingEdge now ref) s =
        .next
          { s with
            acq :=
              { s.acq with
                idleDue := none
                reference := some { code := ref, ok := referenceOk s.acq.calibration ref, source := .stroke } }
            stroke :=
              { s.stroke with
                number := s.stroke.number + 1
                phase := .sampling (now + ms 2)
                  { number := s.stroke.number + 1
                    laneCount := s.web.lanes
                    lanes := Quad.ofFn fun lane =>
                      let free : StrokeLane :=
                        { serial := none, used := none, faulted := false, dwell := 0, dose := 0, peak := none }
                      let assigned : StrokeLane :=
                        { free with used := (s.assignedRecipe lane).map fun x => (x.1, x.2.limits) }
                      if s.web.lanes ≤ lane.val then free
                      else if s.verdict.stations.heatSeal.enabled then
                        match s.recordAt lane s.verdict.stations.heatSeal.slot with
                        | some (.product p) =>
                          { free with
                            serial := some p.serial
                            used := (s.store.recipe p.recipe).map fun r => (p.recipe, r.limits) }
                        | _ => assigned
                      else assigned
                    refOk := referenceOk s.acq.calibration ref
                    long := false
                    rounds := 0 } } })

/-- R61, R87, R88, R89, R90, R91, R92: a round that has fallen due. The round count goes up by one; in each evaluated lane
a fault sample on PRESS or on its own channel (or no channel) sets the fault mark and adds nothing else, and a good
round raises the peak and, in contact, adds to dwell and dose; at 2048 rounds the stroke is LONG and CAPPED, before that
the next round falls due 2 ms after this one fell due. The raw codes are replaced, and nothing else changes. That the next
round is counted from the time this one fell due, not from the time it is taken, is the model's reading (assumption 24). -/
def Obligations.RoundAddsToStroke : Prop :=
  ∀ (now due : Time) (press : RawCode) (temps : Quad RawCode) (k : Stroke) (s : State), s.resetHeld = false →
    s.stroke.phase = .sampling due k → due ≤ now →
    ∃ k' : Stroke, exec (.round now press temps) s =
      .next
        { s with
          acq :=
            { s.acq with
              pressRaw := some press
              lanes := Quad.ofFn fun lane =>
                { s.acq.lanes.get lane with
                  lastRaw :=
                    if lane.val < s.web.lanes then some (temps.get lane) else (s.acq.lanes.get lane).lastRaw } }
          stroke :=
            { s.stroke with
              phase :=
                if 2047 ≤ k.rounds then .capped { k' with long := true } else .sampling (due + ms 2) k' } } ∧
      k' = { k with rounds := k.rounds + 1, lanes := k'.lanes } ∧
      ∀ lane : Lane,
        let l := k.lanes.get lane
        let l' := k'.lanes.get lane
        let temp : Option Nat :=
          if lane.val < s.web.lanes then convertTemp (s.acq.calibration.lanes.get lane) (temps.get lane)
          else none
        (l.used = none → l' = l) ∧
        ∀ slot lim, l.used = some (slot, lim) →
          ((convertPress s.acq.calibration press = none ∨ temp = none) → l' = { l with faulted := true }) ∧
          ∀ P T, convertPress s.acq.calibration press = some P → temp = some T →
            l' =
              { l with
                peak := some (max T (l.peak.getD 0))
                dwell := if lim.pMin ≤ P then l.dwell + 1 else l.dwell
                dose :=
                  if lim.pMin ≤ P then
                    min 1048575 (l.dose + if T < lim.tAct then 0 else min lim.eCap (T - lim.tAct))
                  else l.dose }

/-- R91: a stroke whose round count has reached 2048 is made LONG and CAPPED by ROUND_CAP, and one that has not is left
sampling; in CAPPED neither ROUND nor ROUND_CAP changes anything. That ROUND_CAP stands beside a ROUND that caps by
itself is the model's reading (assumption 7). -/
def Obligations.RoundCapEndsSampling : Prop :=
  ∀ (now : Time) (press : RawCode) (temps : Quad RawCode) (s : State), s.resetHeld = false →
    (∀ due k, s.stroke.phase = .sampling due k → 2048 ≤ k.rounds →
      exec (.roundCap now) s =
        .next { s with stroke := { s.stroke with phase := .capped { k with long := true } } }) ∧
    (∀ due k, s.stroke.phase = .sampling due k → k.rounds < 2048 → exec (.roundCap now) s = .next s) ∧
    ∀ k, s.stroke.phase = .capped k →
      exec (.roundCap now) s = .next s ∧ exec (.round now press temps) s = .next s

/-- R81, R84, R95, R96, R101, R102: a falling SEAL edge with a stroke in flight ends it complete. Each evaluated lane has
its verdict (`SealVerdictOrder`) in the report; each target's record, wherever it stands, takes the verdict and the
dose, or becomes DOUBLE; no other record changes. The idle pass timer restarts, STROKE goes on the SEAL report port, and
nothing else changes. In IDLE the edge is ignored. -/
def Obligations.FallingEdgeEndsStroke : Prop :=
  ∀ (now : Time) (s : State), s.resetHeld = false → s.geometryInv → s.serialInv → s.samplingInv →
    (s.stroke.phase = .idle → exec (.sealFallingEdge now) s = .next s) ∧
    ∀ k, s.stroke.phase.stroke? = some k →
      ∃ t, exec (.sealFallingEdge now) s = .next t ∧
        t.stroke =
          { phase := .idle
            number := s.stroke.number
            report := some
              { number := k.number
                endKind := .complete
                refOk := k.refOk
                long := k.long
                lanes := (lanesBelow k.laneCount).map fun n =>
                  { serial := (k.lanes.get n).serial
                    recipe := (k.lanes.get n).used.map (·.1)
                    rounds := if (k.lanes.get n).used.isSome then k.rounds else 0
                    dwell := (k.lanes.get n).dwell
                    dose := (k.lanes.get n).dose
                    peak := (k.lanes.get n).peak
                    verdict := k.completeVerdict (k.lanes.get n) } } } ∧
        (∀ lane slot,
          t.recordAt lane slot =
            (s.recordAt lane slot).map (Record.onProduct fun p =>
              match (lanesBelow k.laneCount).find? fun n =>
                (k.lanes.get n).serial == some p.serial && (k.lanes.get n).used.isSome with
              | none => p
              | some n =>
                match k.completeVerdict (k.lanes.get n) with
                | .judged v => { p with heatSeal := p.heatSeal.after (.judged v (k.lanes.get n).dose) }
                | .aborted => p
                | .none => p)) ∧
        s.raises t (fun p f => f = .stroke ∧ s.verdict.stations.heatSeal.port = some p) ∧
        t =
          { s with
            web := { s.web with rows := t.web.rows }
            acq := { s.acq with idleDue := some (now + ms 50) }
            stroke := t.stroke
            events := t.events }

/-- R93: the verdict of a lane at a complete end is the first condition of the table that holds; a lane that is not
evaluated has the verdict NONE. -/
def Obligations.SealVerdictOrder : Prop :=
  ∀ (k : Stroke) (l : StrokeLane),
    (l.used = none → k.completeVerdict l = .none) ∧
    ∀ slot lim, l.used = some (slot, lim) →
      ∃ v, k.completeVerdict l = .judged v ∧
        let isSensor := l.faulted = true ∨ k.refOk = false
        let isHot := ∃ peak, l.peak = some peak ∧ lim.tMax < peak
        let isShort := l.dwell < lim.nMin
        let isOver := k.long = true ∨ lim.dMax < l.dose
        let isUnder := l.dose < lim.dMin
        (v = .sensor ↔ isSensor) ∧ (v = .hot ↔ ¬isSensor ∧ isHot) ∧ (v = .short ↔ ¬isSensor ∧ ¬isHot ∧ isShort) ∧
          (v = .over ↔ ¬isSensor ∧ ¬isHot ∧ ¬isShort ∧ isOver) ∧
          (v = .under ↔ ¬isSensor ∧ ¬isHot ∧ ¬isShort ∧ ¬isOver ∧ isUnder) ∧
          (v = .pass ↔ ¬isSensor ∧ ¬isHot ∧ ¬isShort ∧ ¬isOver ∧ ¬isUnder)

/-! ## The Discharge Gate -/

/-- R107, R108, with R106's required fields: a PRODUCT record is ACCEPTED only without a Hold and with every required
field PASS (Card PRESENT); its cause list names each condition it failed, in the fixed order, at most once. A VOID or
UNTRACKED record is REJECTED with its one cause. -/
def Obligations.GateDecisionRule : Prop :=
  ∀ (m : StationMap) (r : RecipeStore),
    causesOf m r .void = [.void] ∧ causesOf m r .untracked = [.untracked] ∧
    (∀ rec, dispositionOf (causesOf m r rec) = .accepted ↔ causesOf m r rec = []) ∧
    ∀ (p : Product) (req : StationSet),
      req = ((r.recipe p.recipe).map (·.required)).getD ⟨true, true, true, true, true, true⟩ →
      (causesOf m r (.product p)).Pairwise (fun a b => a.code < b.code) ∧
      ∀ c, c ∈ causesOf m r (.product p) ↔
        match c with
        | .held => p.hold ≠ none
        | .form => m.form.enabled = true ∧ req.form = true ∧ p.form ≠ .pass
        | .load => m.load.enabled = true ∧ req.load = true ∧ ∀ count, p.load ≠ .pass count
        | .card => m.card.enabled = true ∧ req.card = true ∧ p.card ≠ .present
        | .heatSeal => m.heatSeal.enabled = true ∧ req.heatSeal = true ∧ ∀ dose, p.heatSeal ≠ .judged .pass dose
        | .inspect => m.inspect.enabled = true ∧ req.inspect = true ∧ p.inspect ≠ .pass
        | .aux => m.aux.enabled = true ∧ req.aux = true ∧ p.aux ≠ .pass
        | .untracked => False
        | .void => False

/-- R112: a REJECT pulse whose end time has come is released, on its own lane alone; one whose end time has not come
runs on. That the expiry command is admitted before the end time, and then changes nothing, is the model's choice
(assumption 2). -/
def Obligations.PulseExpiryReleasesLane : Prop :=
  ∀ (now due : Time) (lane : Lane) (s : State), s.resetHeld = false → s.gate.pulses.get lane = some due →
    (due ≤ now →
      exec (.rejectPulseExpiry now lane) s =
        .next { s with gate := { s.gate with pulses := s.gate.pulses.set lane none } }) ∧
    (now < due → exec (.rejectPulseExpiry now lane) s = .next s)

/-- R114, R115, R116, R122: every step keeps the log at no more than 64 entries, numbered consecutively up to the next
sequence number, ACCEPTED exactly where the cause list is empty; and no command but an INDEX edge, power-on and the
RESET line changes the log or the next sequence number. -/
def Obligations.StepKeepsLogInv : Prop :=
  ∀ s t : State, step s = .next t →
    (s.gate.logInv → t.gate.logInv) ∧
    ((∀ now cards, s.pending.head? ≠ some (.indexEdge now cards)) → (∀ now, s.pending.head? ≠ some (.powerOn now)) →
      (∀ now, s.pending.head? ≠ some (.resetLineAssert now)) →
      (∀ now, s.pending.head? ≠ some (.resetLineRelease now)) →
      t.gate.log = s.gate.log ∧ t.gate.nextSeq = s.gate.nextSeq)

/-- R118, R119: Read Discharge Log. BUSY in WAKING; BAD_VALUE for a count outside 1..8; else the gap mark, the oldest held
sequence, the next sequence number and the entries, by the case that the distance d of `first` falls in: held, caught
up, ahead or behind. -/
def Obligations.ReadDischargeLogReply : Prop :=
  ∀ (now : Time) (port : Port) (first : BitVec 32) (count : Byte) (s : State), s.portIdle port →
    s.gate.logInv →
    (s.mode.mode = .waking →
      exec (.readDischargeLog now port first count) s = .next (s.answering port 0x38 .busy [])) ∧
    (s.mode.mode ≠ .waking → (count = 0 ∨ 9 ≤ count.toNat) →
      exec (.readDischargeLog now port first count) s = .next (s.answering port 0x38 .badValue [])) ∧
    (s.mode.mode ≠ .waking → 1 ≤ count.toNat → count.toNat ≤ 8 →
      ∃ gap entries,
        exec (.readDischargeLog now port first count) s =
          .next
            (s.answering port 0x38 .ok
              ([if gap then 1 else 0] ++ le32 (s.gate.nextSeq - BitVec.ofNat 32 s.gate.log.length) ++
                le32 s.gate.nextSeq ++ [byteOf entries.length] ++ entries.flatMap LogEntry.bytes)) ∧
        let d := (s.gate.nextSeq - first).toNat
        let h := s.gate.log.length
        (d = 0 → gap = false ∧ entries = []) ∧
        (1 ≤ d → d ≤ h →
          gap = false ∧ entries = s.gate.log.filter fun e => decide ((e.seq - first).toNat < count.toNat)) ∧
        (2147483648 ≤ d → gap = false ∧ entries = []) ∧
        (h < d → d < 2147483648 → gap = true ∧ entries = s.gate.log.take count.toNat))

/-! ## The Mode Controller -/

/-- R71, R99, R125, R126, R128, R135: Enter Standby, taken in SETUP, RUN or DRAIN with the write engine IDLE, makes the mode
STANDBY with MODE on every port; idle sampling stops, every lane below N is emptied, cleared and judged anew; a stroke in
flight is aborted into its records where they stand and reported; nothing else changes. Leave Standby, taken in STANDBY with
the engine IDLE, begins a WAKING of origin Leave Standby with its self-check timer at 30 ms and MODE on every port; nothing
else changes. That the OK response's attention bit is taken after these flags are raised is the model's reading
(assumption 15). -/
def Obligations.StandbyRequests : Prop :=
  (∀ (now : Time) (port : Port) (s : State), s.portIdle port → s.geometryInv → s.serialInv →
     (s.mode.mode = .setup ∨ s.mode.mode = .run ∨ s.mode.mode = .drain) → s.store.engine = none →
     ∃ e, exec (.enterStandby now port) s = .next (e.answering port 0x10 .ok [1]) ∧
       (∀ lane : Lane, lane.val < s.web.lanes →
         e.acq.lanes.get lane =
           { buffer := []
             faulted := false
             ready := if (s.assignedRecipe lane).isSome then .unknown else .noRecipe
             lastRaw := (s.acq.lanes.get lane).lastRaw }) ∧
       (s.stroke.phase = .idle → e.stroke = s.stroke) ∧
       (∀ k, s.stroke.phase.stroke? = some k →
         e.stroke =
           { phase := .idle
             number := s.stroke.number
             report := some
               { number := k.number
                 endKind := .aborted
                 refOk := k.refOk
                 long := k.long
                 lanes := (lanesBelow k.laneCount).map fun n =>
                   { serial := (k.lanes.get n).serial
                     recipe := (k.lanes.get n).used.map (·.1)
                     rounds := if (k.lanes.get n).used.isSome then k.rounds else 0
                     dwell := (k.lanes.get n).dwell
                     dose := (k.lanes.get n).dose
                     peak := (k.lanes.get n).peak
                     verdict := if (k.lanes.get n).used.isSome then .aborted else .none } } }) ∧
       (∀ lane slot,
         e.recordAt lane slot =
           (s.recordAt lane slot).map (Record.onProduct fun p =>
             match s.stroke.phase.stroke? with
             | some k =>
               if (lanesBelow k.laneCount).any fun n =>
                 (k.lanes.get n).serial == some p.serial && (k.lanes.get n).used.isSome then
                 { p with heatSeal := p.heatSeal.after .aborted }
               else p
             | none => p)) ∧
       s.raises e (fun p f => f = .mode ∨
         (f = .readyChange ∧ s.verdict.stations.heatSeal.port = some p ∧ s.readyMoved e) ∨
         (f = .stroke ∧ s.verdict.stations.heatSeal.port = some p ∧ s.stroke.phase ≠ .idle)) ∧
       e =
         { s with
           web := { s.web with rows := e.web.rows }
           acq := { s.acq with lanes := e.acq.lanes, idleDue := none }
           stroke := e.stroke
           mode := { s.mode with mode := .standby }
           events := e.events }) ∧
  ∀ (now : Time) (port : Port) (s : State), s.portIdle port → s.mode.mode = .standby → s.store.engine = none →
    exec (.leaveStandby now port) s =
      .next
        (({ s with
            mode :=
              { s.mode with mode := .waking, wake := some { due := now + ms 30, origin := .leaveStandby } }
            events := s.flagging 0x020 }).answering
          port 0x11 .ok [2])

/-- R125, R129, R130, R132, R133: Start and Stop where they act. Start in SETUP is refused by the first check that fails, in the
order of R130; when all pass, and in DRAIN without any check, the mode becomes RUN. Stop in RUN makes the mode DRAIN, or at
once SETUP when no PRODUCT record is on the track. MODE goes on every port, the reply carries the mode that stands, and
nothing else changes. That the OK response's attention bit is taken after MODE is raised is the model's reading
(assumption 15). -/
def Obligations.StartAndStop : Prop :=
  (∀ (now : Time) (port : Port) (s : State), s.portIdle port →
     let masked (lane : Lane) : Prop := lane.val < s.web.lanes ∧ s.mode.laneMask.get lane = true
     let running : State :=
       { s with
         mode := { s.mode with mode := .run }
         events := s.flagging 0x020 }
     (s.mode.mode = .drain → exec (.start now port) s = .next (running.answering port 0x12 .ok [4])) ∧
     (s.mode.mode = .setup → s.store.writingConfiguration = true →
       exec (.start now port) s = .next (s.answering port 0x12 .busy [])) ∧
     (s.mode.mode = .setup → s.store.writingConfiguration = false →
       (s.mode.configState ≠ .valid →
         exec (.start now port) s = .next (s.answering port 0x12 .configInvalid [])) ∧
       (s.mode.configState = .valid →
         ((∀ lane, ¬masked lane) → exec (.start now port) s = .next (s.answering port 0x12 .badValue [])) ∧
         ((∃ lane, masked lane ∧ ¬s.assignedValid lane) →
           exec (.start now port) s = .next (s.answering port 0x12 .recipeInvalid [])) ∧
         ((∃ lane, masked lane) → (∀ lane, masked lane → s.assignedValid lane) →
           ((∃ lane, masked lane ∧ (s.acq.lanes.get lane).ready ≠ .ready) →
             exec (.start now port) s = .next (s.answering port 0x12 .notReady [])) ∧
           ((∀ lane, masked lane → (s.acq.lanes.get lane).ready = .ready) →
             exec (.start now port) s = .next (running.answering port 0x12 .ok [4])))))) ∧
  ∀ (now : Time) (port : Port) (s : State), s.portIdle port → s.mode.mode = .run →
    let stopped (m : Mode) : State :=
      { s with
        mode := { s.mode with mode := m }
        events := s.flagging 0x020 }
    (s.noProduct → exec (.stop now port) s = .next ((stopped .setup).answering port 0x13 .ok [3])) ∧
    (¬s.noProduct → exec (.stop now port) s = .next ((stopped .drain).answering port 0x13 .ok [5]))

/-- R22, R125, R148: Declare Web Break loses the track at the geometry in force, with TRACK_LOST on every port; in RUN and
DRAIN the mode becomes SETUP with MODE on every port; nothing else changes. That the OK response's attention bit is taken
after these flags are raised is the model's reading (assumption 15). -/
def Obligations.WebBreakLosesTrack : Prop :=
  ∀ (now : Time) (port : Port) (s : State), s.portIdle port →
    let lost : WebTrack :=
      { s.web with
        rows := Quad.ofFn fun lane =>
          if lane.val < s.web.lanes then List.replicate s.web.length .untracked else [] }
    (s.mode.mode = .standby ∨ s.mode.mode = .setup →
      exec (.declareWebBreak now port) s =
        .next
          (({ s with
              web := lost
              events := s.flagging 0x040 }).answering
            port 0x14 .ok [s.mode.mode.code])) ∧
    (s.mode.mode = .run ∨ s.mode.mode = .drain →
      exec (.declareWebBreak now port) s =
        .next
          (({ s with
              web := lost
              mode := { s.mode with mode := .setup }
              events := s.flagging 0x060 }).answering
            port 0x14 .ok [3]))

/-- R125: the cells of the mode request table that change no mode: BUSY for all five in WAKING and, while the engine is
WRITING, for Enter Standby and Leave Standby where they would change the mode; STANDBY and WRONG_MODE; and OK with no
effect. Nothing changes but the port. -/
def Obligations.ModeRequestsWithoutEffect : Prop :=
  ∀ (now : Time) (port : Port) (s : State), s.portIdle port →
    (s.mode.mode = .waking →
      exec (.enterStandby now port) s = .next (s.answering port 0x10 .busy []) ∧
      exec (.leaveStandby now port) s = .next (s.answering port 0x11 .busy []) ∧
      exec (.start now port) s = .next (s.answering port 0x12 .busy []) ∧
      exec (.stop now port) s = .next (s.answering port 0x13 .busy []) ∧
      exec (.declareWebBreak now port) s = .next (s.answering port 0x14 .busy [])) ∧
    (s.mode.mode = .standby →
      exec (.enterStandby now port) s = .next (s.answering port 0x10 .ok [1]) ∧
      exec (.start now port) s = .next (s.answering port 0x12 .standby []) ∧
      exec (.stop now port) s = .next (s.answering port 0x13 .standby []) ∧
      (s.store.engine ≠ none →
        exec (.leaveStandby now port) s = .next (s.answering port 0x11 .busy []))) ∧
    (s.mode.mode = .setup ∨ s.mode.mode = .run ∨ s.mode.mode = .drain →
      exec (.leaveStandby now port) s = .next (s.answering port 0x11 .ok [s.mode.mode.code]) ∧
      (s.store.engine ≠ none →
        exec (.enterStandby now port) s = .next (s.answering port 0x10 .busy []))) ∧
    (s.mode.mode = .run → exec (.start now port) s = .next (s.answering port 0x12 .ok [4])) ∧
    (s.mode.mode = .setup → exec (.stop now port) s = .next (s.answering port 0x13 .wrongMode [])) ∧
    (s.mode.mode = .drain → exec (.stop now port) s = .next (s.answering port 0x13 .ok [5]))

/-- R143: Set Lane Mask. STANDBY in STANDBY and BUSY in WAKING; BAD_VALUE for a lane not below N; and in RUN and DRAIN
BAD_VALUE for an empty set, RECIPE_INVALID and NOT_READY for the lanes it adds; else the mask becomes the set as a whole,
and nothing else changes. -/
def Obligations.SetLaneMaskOutcome : Prop :=
  ∀ (now : Time) (port : Port) (set : Byte) (s : State), s.portIdle port → s.web.shaped →
    let producing : Prop := s.mode.mode = .run ∨ s.mode.mode = .drain
    let added (lane : Lane) : Prop := set.getLsbD lane.val = true ∧ s.mode.laneMask.get lane = false
    (s.mode.mode = .standby →
      exec (.setLaneMask now port set) s = .next (s.answering port 0x15 .standby [])) ∧
    (s.mode.mode = .waking → exec (.setLaneMask now port set) s = .next (s.answering port 0x15 .busy [])) ∧
    (s.mode.mode = .setup ∨ producing →
      ((∃ n, s.web.lanes ≤ n ∧ set.getLsbD n = true) →
        exec (.setLaneMask now port set) s = .next (s.answering port 0x15 .badValue [])) ∧
      ((∀ n, set.getLsbD n = true → n < s.web.lanes) →
        (producing → set = 0 →
          exec (.setLaneMask now port set) s = .next (s.answering port 0x15 .badValue [])) ∧
        (producing → (∃ lane, added lane ∧ ¬s.assignedValid lane) →
          exec (.setLaneMask now port set) s = .next (s.answering port 0x15 .recipeInvalid [])) ∧
        (producing → set ≠ 0 → (∀ lane, added lane → s.assignedValid lane) →
          (∃ lane, added lane ∧ (s.acq.lanes.get lane).ready ≠ .ready) →
          exec (.setLaneMask now port set) s = .next (s.answering port 0x15 .notReady [])) ∧
        ((producing → set ≠ 0 ∧
            ∀ lane, added lane → s.assignedValid lane ∧ (s.acq.lanes.get lane).ready = .ready) →
          exec (.setLaneMask now port set) s =
            .next
              (({ s with
                  mode :=
                    { s.mode with laneMask := Quad.ofFn fun lane => set.getLsbD lane.val } }).answering
                port 0x15 .ok [set]))))

/-- R73, R74, R146, R181: Set Lane Recipe. Its refusals in order; else the lane's assignment becomes the slot or none,
the lane's ready state is judged at once with its buffer kept, READY_CHANGE goes on the SEAL report port when it moved, and
nothing else changes. That the OK response's attention bit is taken after READY_CHANGE is raised is the model's reading
(assumption 15). -/
def Obligations.SetLaneRecipeOutcome : Prop :=
  ∀ (now : Time) (port : Port) (lane presence slot : Byte) (s : State), s.portIdle port → s.web.shaped →
    (s.mode.mode = .standby →
      exec (.setLaneRecipe now port lane presence slot) s = .next (s.answering port 0x16 .standby [])) ∧
    (s.mode.mode = .waking →
      exec (.setLaneRecipe now port lane presence slot) s = .next (s.answering port 0x16 .busy [])) ∧
    (s.mode.mode.active = true →
      (s.web.lanes ≤ lane.toNat ∨ 2 ≤ presence.toNat ∨ (presence = 1 ∧ 16 ≤ slot.toNat) →
        exec (.setLaneRecipe now port lane presence slot) s = .next (s.answering port 0x16 .badValue [])) ∧
      ∀ (n : Lane) (recipe : Option RecipeSlot), lane.toNat = n.val → n.val < s.web.lanes →
        ((presence = 0 ∧ recipe = none) ∨ (presence = 1 ∧ recipe.map (·.val) = some slot.toNat)) →
        (recipe = none → s.mode.mode.producing = true → s.mode.laneMask.get n = true →
          exec (.setLaneRecipe now port lane presence slot) s =
            .next (s.answering port 0x16 .badValue [])) ∧
        (∀ r, recipe = some r → s.store.writingRecipe r = true →
          exec (.setLaneRecipe now port lane presence slot) s = .next (s.answering port 0x16 .busy [])) ∧
        (∀ r, recipe = some r → s.store.writingRecipe r = false → (s.store.recipes.get r).state ≠ .valid →
          exec (.setLaneRecipe now port lane presence slot) s =
            .next (s.answering port 0x16 .recipeInvalid [])) ∧
        ((recipe = none → s.mode.mode.producing = false ∨ s.mode.laneMask.get n = false) →
          (∀ r, recipe = some r → s.store.writingRecipe r = false ∧ (s.store.recipes.get r).state = .valid) →
          ∃ e judged, exec (.setLaneRecipe now port lane presence slot) s =
              .next (e.answering port 0x16 .ok []) ∧
            e.readyJudged n ∧
            s.raises e (fun p f =>
              f = .readyChange ∧ s.verdict.stations.heatSeal.port = some p ∧ s.readyMoved e) ∧
            e =
              { s with
                mode := { s.mode with assignments := s.mode.assignments.set n recipe }
                acq :=
                  { s.acq with
                    lanes := s.acq.lanes.set n { s.acq.lanes.get n with ready := judged } }
                events := e.events }))

/-- R124: every step keeps the law of the modes: in RUN and DRAIN the configuration is VALID and every lane in the mask is
assigned a VALID recipe. -/
def Obligations.StepKeepsModeLaw : Prop :=
  ∀ s t : State, s.modeLaw → step s = .next t → t.modeLaw

/-- R151: Read Line Status, in every mode, gathers the line's standing in the layout of R182. -/
def Obligations.ReadLineStatusReply : Prop :=
  ∀ (now : Time) (port : Port) (s : State), s.portIdle port →
    ∃ products : Nat, products = ((lanesBelow 4).map fun lane => rowCount (s.web.rows.get lane)).sum ∧
    exec (.readLineStatus now port) s =
      .next
        (s.answering port 0x02 .ok
          ([s.mode.mode.code, s.mode.configState.code, byteOf s.web.lanes, byteOf s.web.length,
              BitVec.ofNat 8 ((lanesBelow 4).map fun lane =>
                if s.mode.laneMask.get lane then 2 ^ lane.val else 0).sum] ++
            ((lanesBelow s.web.lanes).flatMap fun lane =>
              match s.mode.assignments.get lane with
              | some slot => [1, byteOf slot.val, (s.acq.lanes.get lane).ready.code]
              | none => [0, 0, (s.acq.lanes.get lane).ready.code]) ++
            [byteOf products] ++ le32 s.web.indexCount ++ le24 s.web.nextSerial ++
            [if s.store.engine = none then 0 else 1, s.store.config.state.code] ++
            (List.finRange 16).map fun slot => (s.store.recipes.get slot).state.code))

/-- R66, R135, R136, R138, R160: the self-check expires and the configuration block verifies VALID. Every block takes the
state its verification gives, the configuration state is VALID, the settings and the track are kept, the wake REF
is judged, every lane below N is judged anew, the mode is SETUP and idle sampling starts; RESET_DONE or MODE goes on
every port, READY_CHANGE on the SEAL report port when a lane's state moved, and nothing else changes. -/
def Obligations.SelfCheckFindsValid : Prop :=
  ∀ (now : Time) (ref : RawCode) (w : Wake) (s : State), s.resetHeld = false → s.mode.wake = some w →
    w.due ≤ now → s.store.config.verifiesTo configFault .valid →
    ∃ t, exec (.selfCheckExpiry now ref) s = .next t ∧
      t.store.config = { s.store.config with state := .valid } ∧
      (∀ slot,
        t.store.recipes.get slot =
          { s.store.recipes.get slot with state := (t.store.recipes.get slot).state } ∧
        (s.store.recipes.get slot).verifiesTo recipeFault (t.store.recipes.get slot).state) ∧
      (∀ lane : Lane, lane.val < s.web.lanes →
        t.readyJudged lane ∧
        t.acq.lanes.get lane = { s.acq.lanes.get lane with ready := (t.acq.lanes.get lane).ready }) ∧
      (∀ lane : Lane, s.web.lanes ≤ lane.val → t.acq.lanes.get lane = s.acq.lanes.get lane) ∧
      s.raises t (fun p f =>
        (f = .resetDone ∧ w.origin = .reset) ∨ (f = .mode ∧ w.origin = .leaveStandby) ∨
        (f = .readyChange ∧ s.verdict.stations.heatSeal.port = some p ∧ s.readyMoved t)) ∧
      t =
        { s with
          store := { s.store with config := t.store.config, recipes := t.store.recipes }
          acq :=
            { s.acq with
              lanes := t.acq.lanes
              reference := some { code := ref, ok := referenceOk s.acq.calibration ref, source := .wake }
              idleDue := some (now + ms 50) }
          mode := { s.mode with mode := .setup, configState := .valid, wake := none }
          events := t.events }

/-- R34, R59, R136, R137, R156, R157, R171, R191: the factory default settings are those of R157's tables. The self-check
expires and the configuration block does not verify VALID: the factory default settings come into force, the track is lost
at 2 x 24, both lanes are NO_RECIPE, every port's receiver and enable set turn to the factory default, and the flags are
TRACK_LOST and RESET_DONE or MODE on every port and READY_CHANGE on port 3 when a lane's state moved or a lane was added.
Every block takes the state its verification gives and keeps its contents, check value and open mark. That the REJECT pulse
width and the store write deadline turn to the factory default too is the model's reading (assumption 21), and the slot,
window and port of the AUX entry, which is not enabled, are its choice (assumption 27). -/
def Obligations.SelfCheckTurnsToFactory : Prop :=
  (let mask (form load inspect hold : Bool) : Quad FieldMask := Quad.fill ⟨form, load, inspect, false, hold⟩
   factoryDefault =
    { lanes := 2
      length := 24
      minInterval := 50
      rejectWidth := 40
      stations :=
        { form := { enabled := true, slot := 2, window := 2, port := some 0 }
          load := { enabled := true, slot := 6, window := 3, port := some 1 }
          card := { enabled := true, slot := 9, window := 0, port := none }
          heatSeal := { enabled := true, slot := 11, window := 0, port := some 3 }
          inspect := { enabled := true, slot := 16, window := 4, port := some 2 }
          aux := { enabled := false, slot := 0, window := 1, port := none } }
      gatePort := some 3
      masks :=
        { e0 := mask true false false true
          e1 := mask false true false false
          e2 := mask false false true false
          e3 := mask false false false true }
      enables := Quad.fill 0x3FF
      bauds := Quad.fill .b115200
      laneMask := ⟨true, true, false, false⟩
      assignments := Quad.fill none
      calibration :=
        { lanes := Quad.fill { base := -200, span := 4000 }, pspan := 1000, refExpected := 2048, refTolerance := 40 }
      deadline := 20 }) ∧
  ∀ (now : Time) (ref : RawCode) (w : Wake) (s : State), s.resetHeld = false → s.mode.wake = some w →
    w.due ≤ now → ¬s.store.config.verifiesTo configFault .valid →
    ∃ t, exec (.selfCheckExpiry now ref) s = .next t ∧
      t.web =
        { s.web with
          lanes := 2
          length := 24
          minInterval := 50
          rows := ⟨List.replicate 24 .untracked, List.replicate 24 .untracked, [], []⟩ } ∧
      t.verdict.stations = factoryDefault.stations ∧
      (∀ port lane, lane.val < 2 →
        (t.verdict.masks.get port).get lane =
          { form := decide (port = 0), load := decide (port = 1), inspect := decide (port = 2), aux := false,
            hold := decide (port = 0 ∨ port = 3) }) ∧
      t.acq.calibration = factoryDefault.calibration ∧
      t.acq.reference = some { code := ref, ok := referenceOk factoryDefault.calibration ref, source := .wake } ∧
      t.acq.idleDue = some (now + ms 50) ∧ t.acq.pressRaw = s.acq.pressRaw ∧
      (∀ lane : Lane, lane.val < 2 → t.acq.lanes.get lane = { s.acq.lanes.get lane with ready := .noRecipe }) ∧
      t.gate = { s.gate with rejectWidth := 40, reportPort := some 3 } ∧
      t.mode =
        { mode := .setup
          laneMask := ⟨true, true, false, false⟩
          assignments := ⟨none, none, none, none⟩
          configState := .invalid
          wake := none } ∧
      s.store.config.verifiesTo configFault t.store.config.state ∧
      t.store.config = { s.store.config with state := t.store.config.state } ∧
      (∀ slot,
        (s.store.recipes.get slot).verifiesTo recipeFault (t.store.recipes.get slot).state ∧
        t.store.recipes.get slot =
          { s.store.recipes.get slot with state := (t.store.recipes.get slot).state }) ∧
      t.store.deadline = 20 ∧ t.store.engine = s.store.engine ∧
      (∀ port,
        let before := s.ports.get port
        let after := t.ports.get port
        after.rxBaud = .b115200 ∧ after.sending = before.sending ∧ after.held = before.held ∧
          after.lost = before.lost ∧
          (before.rxBaud = .b115200 → after.receiver = before.receiver ∧ after.txBaud = before.txBaud) ∧
          (before.rxBaud ≠ .b115200 → after.receiver = .hunting ∧
            (before.sending = none → after.txBaud = .b115200) ∧
            (before.sending ≠ none → after.txBaud = before.txBaud))) ∧
      (∀ port,
        (t.events.get port).enable = 0x3FF ∧
        (t.events.get port).storeResult = (s.events.get port).storeResult ∧
        ∀ f, t.flagSet port f ↔ s.flagSet port f ∨ f = .trackLost ∨ (f = .resetDone ∧ w.origin = .reset) ∨
          (f = .mode ∧ w.origin = .leaveStandby) ∨
          (f = .readyChange ∧ port = 3 ∧ (s.readyMoved t ∨ s.web.lanes < 2))) ∧
      t.stroke = s.stroke ∧ t.resetHeld = s.resetHeld ∧ t.pending = s.pending

/-! ## The Recipe Store -/

/-- R152, R154, R155: a recipe is named by the number of its first failing field, a configuration by that of its first
failing item, and either passes exactly when none fails. R181, R182: what the 32 bytes of a recipe block, and the 85 of a
configuration block that passes, stand for, offset by offset: bit n of a set for its n-th member, 0xFF for no port or slot,
a two's-complement base, and the codes of the bauds and the store write deadlines. A recipe is one that the other blocks may
use, as a slot's or as a lane's assigned one, exactly while its block is VALID. -/
def Obligations.ContentsChecks : Prop :=
  (∀ r : RecipeWire,
    (recipeFault r = none ↔ ∀ k, 1 ≤ k → k ≤ 11 → r.fieldOk k) ∧
    ∀ k, recipeFault r = some k ↔ 1 ≤ k ∧ k ≤ 11 ∧ ¬r.fieldOk k ∧ ∀ j, 1 ≤ j → j < k → r.fieldOk j) ∧
  (∀ c : ConfigWire,
    (configFault c = none ↔ ∀ k, 1 ≤ k → k ≤ 18 → c.itemOk k) ∧
    ∀ k, configFault c = some k ↔ 1 ≤ k ∧ k ≤ 18 ∧ ¬c.itemOk k ∧ ∀ j, 1 ≤ j → j < k → c.itemOk j) ∧
  (∀ (r : RecipeStore) (slot : RecipeSlot) (w : RecipeWire), (r.recipes.get slot).contents = some w →
    ((r.recipes.get slot).state = .valid → r.recipe slot = some (recipeOfWire w)) ∧
    ((r.recipes.get slot).state ≠ .valid → r.recipe slot = none)) ∧
  (∀ (s : State) (lane : Lane),
    (s.mode.assignments.get lane = none → s.assignedRecipe lane = none) ∧
    ∀ slot, s.mode.assignments.get lane = some slot →
      s.assignedRecipe lane = (s.store.recipe slot).map fun r => (slot, r)) ∧
  (∀ r : RecipeWire,
    let b := r.bytes
    let m := recipeOfWire r
    b.length = 32 ∧ b.take 12 = r.name.chars ∧ m.items = (byteAt b 12).toNat ∧
      m.required =
        { form := (byteAt b 13).getLsbD 0
          load := (byteAt b 13).getLsbD 1
          card := (byteAt b 13).getLsbD 2
          heatSeal := (byteAt b 13).getLsbD 3
          inspect := (byteAt b 13).getLsbD 4
          aux := (byteAt b 13).getLsbD 5 } ∧
      m.margin = (wordAt b 20).toNat ∧
      m.limits =
        { tAct := (wordAt b 14).toNat
          tMax := (wordAt b 16).toNat
          eCap := (wordAt b 18).toNat
          pMin := (wordAt b 22).toNat
          nMin := (wordAt b 24).toNat
          dMin := (tripleAt b 26).toNat
          dMax := (tripleAt b 29).toNat }) ∧
  ∀ c : ConfigWire, configFault c = none →
    let b := c.bytes
    let m := configurationOf c
    let portRead (port : Option Port) (x : Byte) : Prop :=
      (port = none ↔ x = 0xFF) ∧ ∀ p : Port, port = some p ↔ x.toNat = p.val
    let entryRead (e : StationEntry) (k : Nat) : Prop :=
      (e.enabled = true ↔ byteAt b k = 1) ∧ (e.enabled = false ↔ byteAt b k = 0) ∧
        e.slot = (byteAt b (k + 1)).toNat ∧ e.window = (byteAt b (k + 2)).toNat ∧
        portRead e.port (byteAt b (k + 3))
    b.length = 85 ∧ m.lanes = (byteAt b 0).toNat ∧ m.length = (byteAt b 1).toNat ∧
      m.minInterval = (wordAt b 2).toNat ∧ m.rejectWidth = (byteAt b 4).toNat ∧
      entryRead m.stations.form 5 ∧ entryRead m.stations.load 9 ∧ entryRead m.stations.card 13 ∧
      entryRead m.stations.heatSeal 17 ∧ entryRead m.stations.inspect 21 ∧ entryRead m.stations.aux 25 ∧
      portRead m.gatePort (byteAt b 29) ∧
      (∀ port lane : Fin 4,
        let mask := byteAt b (30 + 4 * port.val + lane.val)
        (m.masks.get port).get lane =
          { form := mask.getLsbD 0
            load := mask.getLsbD 1
            inspect := mask.getLsbD 4
            aux := mask.getLsbD 5
            hold := mask.getLsbD 6 }) ∧
      (∀ port : Port,
        (∀ n, (m.enables.get port).getLsbD n = (wordAt b (46 + 2 * port.val)).getLsbD n) ∧
        (m.bauds.get port, byteAt b (54 + port.val)) ∈
          ([(.b57600, 0), (.b115200, 1), (.b230400, 2), (.b460800, 3)] : List (Baud × Byte))) ∧
      (∀ lane : Lane,
        m.laneMask.get lane = (byteAt b 58).getLsbD lane.val ∧
        (m.assignments.get lane = none ↔ byteAt b (59 + lane.val) = 0xFF) ∧
        (∀ slot : RecipeSlot, m.assignments.get lane = some slot ↔ (byteAt b (59 + lane.val)).toNat = slot.val) ∧
        (m.calibration.lanes.get lane).base = (wordAt b (63 + 2 * lane.val)).toInt ∧
        (m.calibration.lanes.get lane).span = (wordAt b (71 + 2 * lane.val)).toNat) ∧
      m.calibration.pspan = (wordAt b 79).toNat ∧ m.calibration.refExpected = (wordAt b 81).toNat ∧
      m.calibration.refTolerance = (byteAt b 83).toNat ∧
      (m.deadline, byteAt b 84) ∈ ([(10, 0), (20, 1), (40, 2), (80, 3)] : List (Nat × Byte))

/-- R158, R161, R162, R163: Write Recipe. BUSY in WAKING or with the engine WRITING, BAD_VALUE naming 0 for the slot or the
first failing field, IN_USE for a slot that a record or an assignment names; else the write is accepted: the open
mark is set, the engine holds block, port and contents and the deadline runs, the block keeps its state and contents,
and nothing else changes. -/
def Obligations.WriteRecipeOutcome : Prop :=
  ∀ (now : Time) (port : Port) (slot : Byte) (contents : RecipeWire) (s : State), s.portIdle port →
    (s.mode.mode = .waking ∨ s.store.engine ≠ none →
      exec (.writeRecipe now port slot contents) s = .next (s.answering port 0x4A .busy [])) ∧
    (s.mode.mode ≠ .waking → s.store.engine = none →
      (16 ≤ slot.toNat →
        exec (.writeRecipe now port slot contents) s = .next (s.answering port 0x4A .badValue [0])) ∧
      ∀ n : RecipeSlot, slot.toNat = n.val →
        (∀ k, recipeFault contents = some k →
          exec (.writeRecipe now port slot contents) s =
            .next (s.answering port 0x4A .badValue [byteOf k])) ∧
        (recipeFault contents = none → s.slotNamed n →
          exec (.writeRecipe now port slot contents) s = .next (s.answering port 0x4A .inUse [])) ∧
        (recipeFault contents = none → ¬s.slotNamed n →
          exec (.writeRecipe now port slot contents) s =
            .next
              (({ s with
                  store :=
                    { s.store with
                      recipes := s.store.recipes.set n { s.store.recipes.get n with openMark := true }
                      engine := some
                        { target := .recipe n contents
                          port := port
                          accepted := now
                          due := now + ms s.store.deadline } } }).answering port 0x4A .ok [slot])))

/-- R158, R161, R164: Write Configuration. BUSY in WAKING, WRONG_MODE outside SETUP, IN_USE with product on the track, BUSY
with the engine WRITING, BAD_VALUE naming the first failing item; else the write is accepted, and the configuration in
force, the block's state and its contents stay as they were. -/
def Obligations.WriteConfigurationOutcome : Prop :=
  ∀ (now : Time) (port : Port) (contents : ConfigWire) (s : State), s.portIdle port →
    (s.mode.mode = .waking →
      exec (.writeConfiguration now port contents) s = .next (s.answering port 0x48 .busy [])) ∧
    (s.mode.mode ≠ .waking → s.mode.mode ≠ .setup →
      exec (.writeConfiguration now port contents) s = .next (s.answering port 0x48 .wrongMode [])) ∧
    (s.mode.mode = .setup → ¬s.noProduct →
      exec (.writeConfiguration now port contents) s = .next (s.answering port 0x48 .inUse [])) ∧
    (s.mode.mode = .setup → s.noProduct → s.store.engine ≠ none →
      exec (.writeConfiguration now port contents) s = .next (s.answering port 0x48 .busy [])) ∧
    (s.mode.mode = .setup → s.noProduct → s.store.engine = none →
      (∀ k, configFault contents = some k →
        exec (.writeConfiguration now port contents) s =
          .next (s.answering port 0x48 .badValue [byteOf k])) ∧
      (configFault contents = none →
        exec (.writeConfiguration now port contents) s =
          .next
            (({ s with
                store :=
                  { s.store with
                    config := { s.store.config with openMark := true }
                    engine := some
                      { target := .configuration contents
                        port := port
                        accepted := now
                        due := now + ms s.store.deadline } } }).answering port 0x48 .ok [])))

/-- R161, R165, R166: the completion of a recipe write. Taken no earlier than 6 ms after its acceptance and before its
deadline's expiry, it makes the block VALID with the written contents, frees the engine, and raises STORE_DONE OK on the
requesting port, and nothing else changes. With no write in flight, or another than the one that completes, as when the write was
abandoned, it changes nothing. That a write is known by its time of acceptance, and is not taken past its deadline,
is the model's reading (assumption 3). -/
def Obligations.RecipeWriteCompletes : Prop :=
  ∀ (now accepted : Time) (s : State), s.resetHeld = false →
    (s.store.engine = none → exec (.storeWriteCompletion now accepted) s = .next s) ∧
    (∀ w, s.store.engine = some w → w.accepted ≠ accepted →
      exec (.storeWriteCompletion now accepted) s = .next s) ∧
    ∀ w slot contents, s.store.engine = some w → w.accepted = accepted → w.target = .recipe slot contents →
      accepted + ms 6 ≤ now → now ≤ w.due →
      exec (.storeWriteCompletion now accepted) s =
        .next
          { s with
            store :=
              { s.store with
                recipes := s.store.recipes.set slot
                  { contents := some contents, checkMatches := true, openMark := false, state := .valid }
                engine := none }
            events := s.events.set w.port
              { s.events.get w.port with
                flags := (s.events.get w.port).flags ||| 0x100
                storeResult := some .ok } }

/-- R75, R150, R156, R165, R168: the completion of a configuration write, no earlier than 12 ms after its acceptance and
before its deadline's expiry. The block is VALID, and in the same change the new configuration takes effect: every setting
but bauds and enables is loaded, the track is lost at the new N x L, every lane below the new N is emptied and judged
anew, and the flags are STORE_DONE on the requesting port, TRACK_LOST on every port, and READY_CHANGE on the new SEAL
report port when a state moved or a lane was added. -/
def Obligations.ConfigurationTakesEffect : Prop :=
  ∀ (now : Time) (w : StoreWrite) (contents : ConfigWire) (s : State), s.resetHeld = false →
    s.store.engine = some w → w.target = .configuration contents → configFault contents = none →
    w.accepted + ms 12 ≤ now → now ≤ w.due →
    let c := configurationOf contents
    ∃ t, exec (.storeWriteCompletion now w.accepted) s = .next t ∧
      t.store =
        { s.store with
          config := { contents := some contents, checkMatches := true, openMark := false, state := .valid }
          engine := none
          deadline := c.deadline } ∧
      t.web =
        { s.web with
          lanes := c.lanes
          length := c.length
          minInterval := c.minInterval
          rows := Quad.ofFn fun lane =>
            if lane.val < c.lanes then List.replicate c.length .untracked else [] } ∧
      t.verdict.stations = c.stations ∧
      (∀ port (lane : Lane), lane.val < c.lanes →
        (t.verdict.masks.get port).get lane = (c.masks.get port).get lane) ∧
      t.acq.calibration = c.calibration ∧ t.acq.pressRaw = s.acq.pressRaw ∧
      t.acq.reference = s.acq.reference ∧ t.acq.idleDue = s.acq.idleDue ∧
      (∀ lane : Lane, lane.val < c.lanes →
        t.readyJudged lane ∧ (t.acq.lanes.get lane).buffer = [] ∧
          (t.acq.lanes.get lane).faulted = false ∧
          (t.acq.lanes.get lane).lastRaw = (s.acq.lanes.get lane).lastRaw) ∧
      (∀ lane : Lane, c.lanes ≤ lane.val → (t.acq.lanes.get lane).lastRaw = none) ∧
      t.gate = { s.gate with rejectWidth := c.rejectWidth, reportPort := c.gatePort } ∧
      t.mode.mode = s.mode.mode ∧ t.mode.configState = .valid ∧ t.mode.wake = s.mode.wake ∧
      (∀ lane : Lane,
        t.mode.laneMask.get lane = (decide (lane.val < c.lanes) && c.laneMask.get lane) ∧
        t.mode.assignments.get lane = if lane.val < c.lanes then c.assignments.get lane else none) ∧
      (∀ port,
        (t.events.get port).enable = (s.events.get port).enable ∧
        (t.events.get port).storeResult =
          (if port = w.port then some .ok else (s.events.get port).storeResult) ∧
        ∀ f, t.flagSet port f ↔ s.flagSet port f ∨ (f = .storeDone ∧ port = w.port) ∨ f = .trackLost ∨
          (f = .readyChange ∧ c.stations.heatSeal.port = some port ∧
            (s.readyMoved t ∨ s.web.lanes < c.lanes))) ∧
      t.stroke = s.stroke ∧ t.ports = s.ports ∧ t.resetHeld = s.resetHeld ∧ t.pending = s.pending

/-- R149, R161, R166: the deadline of the write in flight. When it has come the write is abandoned: the block is INVALID
with its open mark as it stood, the engine is IDLE, STORE_DONE TIMEOUT goes on the requesting port, and for a
configuration the configuration state is INVALID while the settings in force stay; before it has come nothing changes. That
the deadline command is admitted before its time, and then changes nothing, is the model's choice (assumption 2). -/
def Obligations.StoreDeadlineAbandons : Prop :=
  ∀ (now : Time) (w : StoreWrite) (s : State), s.resetHeld = false → s.store.engine = some w →
    (now < w.due → exec (.storeWriteDeadline now) s = .next s) ∧
    (w.due ≤ now →
      let timedOut : Quad PortEvents := s.events.set w.port
        { s.events.get w.port with
          flags := (s.events.get w.port).flags ||| 0x100
          storeResult := some .timeout }
      (∀ slot contents, w.target = .recipe slot contents →
        exec (.storeWriteDeadline now) s =
          .next
            { s with
              store :=
                { s.store with
                  recipes := s.store.recipes.set slot { s.store.recipes.get slot with state := .invalid }
                  engine := none }
              events := timedOut }) ∧
      ∀ contents, w.target = .configuration contents →
        exec (.storeWriteDeadline now) s =
          .next
            { s with
              store := { s.store with config := { s.store.config with state := .invalid }, engine := none }
              mode := { s.mode with configState := .invalid }
              events := timedOut })

/-- R169, R170: Read Recipe and Read Configuration answer the block's state, the being-written mark, for a recipe the
in-use mark, and the contents of a VALID block, zeros for any other; BUSY in WAKING, BAD_VALUE for a slot of 16 or more. -/
def Obligations.StoreReads : Prop :=
  ∀ (now : Time) (port : Port) (s : State), s.portIdle port →
    (s.mode.mode = .waking → ∀ slot,
      exec (.readRecipe now port slot) s = .next (s.answering port 0x4B .busy []) ∧
      exec (.readConfiguration now port) s = .next (s.answering port 0x49 .busy [])) ∧
    (s.mode.mode ≠ .waking →
      (∀ slot : Byte, 16 ≤ slot.toNat →
        exec (.readRecipe now port slot) s = .next (s.answering port 0x4B .badValue [])) ∧
      (∀ (slot : Byte) (n : RecipeSlot) (written inUse : Bool), slot.toNat = n.val →
        (written = true ↔ ∃ w contents, s.store.engine = some w ∧ w.target = .recipe n contents) →
        (inUse = true ↔ s.slotNamed n) →
        exec (.readRecipe now port slot) s =
          .next
            (s.answering port 0x4B .ok
              ([(s.store.recipes.get n).state.code, if written then 1 else 0, if inUse then 1 else 0] ++
                match (s.store.recipes.get n).state, (s.store.recipes.get n).contents with
                | .valid, some contents => contents.bytes
                | _, _ => List.replicate 32 0))) ∧
      ∀ written : Bool,
        (written = true ↔ ∃ w contents, s.store.engine = some w ∧ w.target = .configuration contents) →
        exec (.readConfiguration now port) s =
          .next
            (s.answering port 0x49 .ok
              ([s.store.config.state.code, if written then 1 else 0] ++
                match s.store.config.state, s.store.config.contents with
                | .valid, some contents => contents.bytes
                | _, _ => List.replicate 85 0)))

/-- R163: no step changes the stored contents of a recipe slot that a record on the track or an assignment names; every step
keeps a slot that is being written out of use. -/
def Obligations.NamedRecipeKeepsContents : Prop :=
  ∀ s t : State, s.storeLaw → step s = .next t →
    t.storeLaw ∧
    ∀ slot, s.slotNamed slot → (t.store.recipes.get slot).contents = (s.store.recipes.get slot).contents

/-! ## The Station Ports -/

/-- R172, R175, R176, R181, R182: the frame that the code table gives a request, with every parameter at every value its width
admits, is judged as that very request. -/
def Obligations.RequestFramesJudgedAsSent : Prop :=
  ∀ r : Request, judge r.frame = .request r

/-- R171, R172, R173, R174: the bytes of a frame of at most 119 parameters, received one after the other on a hunting
port with no gap of more than 10 ms, bring about exactly what that frame's completion brings about at the last byte.
(The commands stand in the queue one by one; the run takes them all.) That the start of the first byte's start bit is compared
with nothing is the model's choice (assumption 28). -/
def Obligations.FrameReceivedByteByByte : Prop :=
  ∀ (port : Port) (f : Frame) (begun ended : Nat → Time) (s : State), s.resetHeld = false →
    (s.ports.get port).receiver = .hunting → f.params.length ≤ 119 →
    (∀ i, begun (i + 1) ≤ ended i + ms 10) →
    Host.Core.run Sys2Proof.core f.bytes.length
        { s with pending := f.bytes.mapIdx fun i b => .byteReceived (begun i) (ended i) port b true } =
      .next (frameComplete (ended (f.bytes.length - 1)) port f { s with pending := [] })

/-- R171, R173, R174: what a single character does to a port that is not held in reset. A character with no valid stop bit
does nothing. In HUNTING a 0xA5 starts a frame and any other byte is discarded. A LEN of 0 or above 120 ends the frame, and
is itself the first byte of the next hunt. A gap of more than 10 ms inside a frame ends it, and one of exactly 10 ms does
not; the byte that arrives after a gap is the first byte of a new hunt. That in HUNTING the start of a character's start bit
is compared with nothing, so that one cut by a reset or a turn of the baud is taken whole, is the model's choice (assumption
28), and so is that INTER_BYTE_GAP is admitted before its time, and then changes nothing (assumption 2). -/
def Obligations.ReceiverRules : Prop :=
  ∀ (port : Port) (s : State), s.resetHeld = false →
    let receiving (r : Receiver) : State :=
      { s with ports := s.ports.set port { s.ports.get port with receiver := r } }
    (∀ begun now b, exec (.byteReceived begun now port b false) s = .next s) ∧
    ((s.ports.get port).receiver = .hunting →
      (∀ begun now b, b ≠ 0xA5 → exec (.byteReceived begun now port b true) s = .next s) ∧
      (∀ begun now, exec (.byteReceived begun now port 0xA5 true) s = .next (receiving (.inFrame [] now))) ∧
      ∀ now, exec (.interByteGap now port) s = .next s) ∧
    (∀ bytes last, (s.ports.get port).receiver = .inFrame bytes last →
      (∀ begun now b, last + ms 10 < begun →
        exec (.byteReceived begun now port b true) s =
          .next (receiving (if b = 0xA5 then .inFrame [] now else .hunting))) ∧
      (∀ now, last + ms 10 < now → exec (.interByteGap now port) s = .next (receiving .hunting)) ∧
      ∀ now, now ≤ last + ms 10 → exec (.interByteGap now port) s = .next s) ∧
    ∀ last begun now len, (s.ports.get port).receiver = .inFrame [] last → begun ≤ last + ms 10 →
      (1 ≤ len.toNat → len.toNat ≤ 120 →
        exec (.byteReceived begun now port len true) s = .next (receiving (.inFrame [len] now))) ∧
      (len = 0 ∨ 120 < len.toNat →
        exec (.badLenFrame begun now port len) s =
          .next (receiving (if len = 0xA5 then .inFrame [] now else .hunting)))

/-- R177, R178, R184: frames on a busy port. One that completes while a response is being sent is held; one that
completes while a frame is held is discarded with the lost-frame mark set; when the last byte of a response has gone
the transmitter is idle and a held frame is judged and answered. So too every request's own command: on a port that is sending a
response the request's frame is held, and on one that holds a frame it is lost; it is not taken. -/
def Obligations.FramesTakenInTurn : Prop :=
  ∀ (now : Time) (port : Port) (s : State), s.resetHeld = false →
    let p := s.ports.get port
    (∀ f response, p.sending = some response → p.held = none →
      exec (.frameHeld now port f) s =
        .next { s with ports := s.ports.set port { p with receiver := .hunting, held := some f } }) ∧
    (∀ f held, p.held = some held →
      exec (.lostFrame now port f) s =
        .next { s with ports := s.ports.set port { p with receiver := .hunting, lost := true } }) ∧
    (∀ (r : Request) (response : Response), p.sending = some response → p.held = none →
      exec (r.command now port) s =
        .next { s with ports := s.ports.set port { p with receiver := .hunting, held := some r.frame } }) ∧
    (∀ (r : Request) (held : Frame), p.held = some held →
      exec (r.command now port) s =
        .next { s with ports := s.ports.set port { p with receiver := .hunting, lost := true } }) ∧
    (∀ response, p.sending = some response → ¬(response.code = 0x17 ∧ response.status = .ok) →
      let idle : State :=
        { s with ports := s.ports.set port { p with sending := none, held := none, txBaud := p.rxBaud } }
      (p.held = none → exec (.responseSent now port) s = .next idle) ∧
      ∀ f, p.held = some f → exec (.responseSent now port) s = .next (answerFrame now port f idle)) ∧
    (p.sending = none → exec (.responseSent now port) s = .next s)

/-- R176: on an idle port a frame with a bad check is answered BAD_CHECK with CODE 0x00; one with a good check and a code
that is none of the 27 is answered UNKNOWN with that code; one with a known code and another LEN than the table's is
answered BAD_LENGTH with that code; and a good frame of a request is answered as the request's own command is. -/
def Obligations.FramesJudgedInOrder : Prop :=
  ∀ (now : Time) (port : Port) (s : State), s.portIdle port →
    (∀ f : Frame, f.check ≠ crc8 (f.len :: f.code :: f.params) →
      exec (.badCheck now port f) s = .next (s.answering port 0x00 .badCheck [])) ∧
    (∀ (code : Byte) (params : List Byte), (∀ r : Request, r.code ≠ code) →
      exec (.unknown now port code params) s = .next (s.answering port code .unknown [])) ∧
    (∀ (r : Request) (params : List Byte), params.length ≠ r.params.length →
      frameComplete now port (Frame.good r.code params) s = s.answering port r.code .badLength []) ∧
    ∀ r : Request, frameComplete now port r.frame s = submit now port r s

/-! ## Resets -/

/-- R31, R78, R104, R121, R140, R159, R167, R184, R191: what power-on, and the release of a held RESET line, leave: every
block as its reset rule says, on the configuration the Recipe Store supplies; the store keeps its contents, check values and
open marks. Asserting the line leaves the same with no self-check running, and so does a power-on while it is held. While
it is held every other command leaves the state as it is: no request is answered, no edge seen, no byte received and no timer
runs. A release of a line that is not held changes nothing. The state in which the part stands while the line is held, with
what power-on and an idle release do, is the model's reading (assumption 12), and so are the empty places of the lanes at or
above N its choice (assumption 18). -/
def Obligations.PowerOnAndResetLine : Prop :=
  (∀ (command : Instr) (s : State), s.resetHeld = true → (∀ now, command ≠ .powerOn now) →
    (∀ now, command ≠ .resetLineAssert now) → (∀ now, command ≠ .resetLineRelease now) →
    exec command s = .next s) ∧
  ∀ (now : Time) (c : Configuration) (s : State), s.store.supplies c →
    let after (held : Bool) (wake : Option Wake) : State :=
      { web :=
          { lanes := c.lanes
            length := c.length
            minInterval := c.minInterval
            rows := Quad.ofFn fun lane =>
              if lane.val < c.lanes then List.replicate c.length .untracked else []
            nextSerial := 1
            indexCount := 0
            lastTaken := none }
        verdict :=
          { stations := c.stations
            masks := Quad.ofFn fun port => Quad.ofFn fun lane =>
              if lane.val < c.lanes then (c.masks.get port).get lane
              else ⟨false, false, false, false, false⟩ }
        acq :=
          { calibration := c.calibration
            lanes := Quad.ofFn fun lane =>
              { buffer := []
                faulted := false
                ready := if lane.val < c.lanes ∧ (c.assignments.get lane).isSome then .unknown else .noRecipe
                lastRaw := none }
            pressRaw := none
            reference := none
            idleDue := none }
        stroke := { phase := .idle, number := 0, report := none }
        gate :=
          { pulses := ⟨none, none, none, none⟩
            rejectWidth := c.rejectWidth
            reportPort := c.gatePort
            log := []
            nextSeq := 0 }
        mode :=
          { mode := .waking
            laneMask := Quad.ofFn fun lane => decide (lane.val < c.lanes) && c.laneMask.get lane
            assignments := Quad.ofFn fun lane => if lane.val < c.lanes then c.assignments.get lane else none
            configState := .unverified
            wake := wake }
        store :=
          { config := { s.store.config with state := .unverified }
            recipes := s.store.recipes.map fun b => { b with state := .unverified }
            engine := none
            deadline := c.deadline }
        ports := Quad.ofFn fun port =>
          { rxBaud := c.bauds.get port
            txBaud := c.bauds.get port
            receiver := .hunting
            sending := none
            held := none
            lost := false }
        events := Quad.ofFn fun port => { flags := 0, enable := c.enables.get port, storeResult := none }
        resetHeld := held
        pending := s.pending }
    let waking : Option Wake := some { due := now + ms 30, origin := .reset }
    (s.resetHeld = false → exec (.powerOn now) s = .next (after false waking)) ∧
    (s.resetHeld = true → exec (.powerOn now) s = .next (after true none)) ∧
    (s.resetHeld = true → exec (.resetLineRelease now) s = .next (after false waking)) ∧
    (s.resetHeld = false → exec (.resetLineRelease now) s = .next s) ∧
    exec (.resetLineAssert now) s = .next (after true none)

/-- R32, R122, R141, R184: Reset Part is answered OK in every mode with nothing else changed; once the last byte of that
response has gone, whether that is told by PART_RESET_TAKEN or by RESPONSE_SENT, the reset is taken: the state is that of
power-on but for the serial counter, the discharge log and the next sequence number, which are kept. That RESPONSE_SENT takes
the reset as PART_RESET_TAKEN does is the model's reading (assumption 8). -/
def Obligations.PartResetKeepsNumbering : Prop :=
  ∀ (now : Time) (port : Port) (s : State), s.resetHeld = false →
    (s.portIdle port → exec (.resetPart now port) s = .next (s.answering port 0x17 .ok [])) ∧
    ∀ response, (s.ports.get port).sending = some response → response.code = 0x17 → response.status = .ok →
      ∃ t, exec (.powerOn now) s = .next t ∧
        let kept : State :=
          { t with
            web := { t.web with nextSerial := s.web.nextSerial }
            gate := { t.gate with log := s.gate.log, nextSeq := s.gate.nextSeq } }
        exec (.partResetTaken now port) s = .next kept ∧ exec (.responseSent now port) s = .next kept

/-! ## Identify and the Event Unit -/

/-- R183: Identify, in every mode and on every port, answers the vendor code, the part code, a silicon revision of 1..255
that nothing changes, and the port's own number, and changes nothing. -/
def Obligations.IdentifyReply : Prop :=
  ∃ revision : Byte, revision ≠ 0 ∧
    ∀ (now : Time) (port : Port) (s : State), s.portIdle port →
      exec (.identify now port) s =
        .next (s.answering port 0x01 .ok [0x52, 0x01, 0x30, 0x00, revision, byteOf port.val])

/-- R180, R189, R190: Read Events reports and clears exactly the flags that are set and enabled, with the held result when
STORE_DONE is among them; Set Event Enable replaces the port's enable set and clears no flag. Both act before
their response takes the attention line, which is driven while a flag is set and enabled. -/
def Obligations.EventRequests : Prop :=
  ∀ (now : Time) (port : Port) (s : State), s.portIdle port →
    ((s.events.get port).attention = true ↔
      ∃ f, s.flagSet port f ∧ ((s.events.get port).enable).getLsbD f.bit = true) ∧
    (∃ (e : State) (reported : BitVec 16), exec (.readEvents now port) s =
        .next (e.answering port 0x40 .ok
          (le16 reported ++
            ([if reported.getLsbD 8 then
              (match (s.events.get port).storeResult with
              | none => 0
              | some .ok => 1
              | some .timeout => 2) else 0] : List Byte))) ∧
      (∀ n, reported.getLsbD n = true ↔
        ((s.events.get port).flags).getLsbD n = true ∧ ((s.events.get port).enable).getLsbD n = true) ∧
      (∀ n, ((e.events.get port).flags).getLsbD n = true ↔
        ((s.events.get port).flags).getLsbD n = true ∧ ((s.events.get port).enable).getLsbD n = false) ∧
      (e.events.get port).enable = (s.events.get port).enable ∧
      (e.events.get port).storeResult =
        (if reported.getLsbD 8 then none else (s.events.get port).storeResult) ∧
      e = { s with events := s.events.set port (e.events.get port) }) ∧
    ∀ set : BitVec 16,
      ((∃ n, 10 ≤ n ∧ set.getLsbD n = true) →
        exec (.setEventEnable now port set) s = .next (s.answering port 0x41 .badValue [])) ∧
      ((∀ n, 10 ≤ n → set.getLsbD n = false) →
        exec (.setEventEnable now port set) s =
          .next
            (({ s with
                events := s.events.set port
                  { s.events.get port with enable := set.setWidth 10 } }).answering port 0x41 .ok []))

/-- R171, R177, R188, R190: every step keeps a held frame, or a transmitter at an old baud, to a port that is sending, and
a held store result to a port whose STORE_DONE is set. -/
def Obligations.StepKeepsPortsInv : Prop :=
  ∀ s t : State, s.portsInv → step s = .next t → t.portsInv
end

