-- ==== Sys2Proof/Laws/Data.lean ====
section
/-! SUPPORT. The small lemmas of the collections (Quad, Bank) and of the byte order. -/

namespace Sys2Proof

namespace Quad

variable {α β γ : Type}

theorem ext_get {p q : Quad α} (h : ∀ i, p.get i = q.get i) : p = q := by
  have h0 := h 0
  have h1 := h 1
  have h2 := h 2
  have h3 := h 3
  cases p
  cases q
  simp_all [get]

theorem get_set (q : Quad α) (i j : Fin 4) (a : α) : (q.set i a).get j = if i = j then a else q.get j := by
  fin_cases i <;> fin_cases j <;> rfl

@[simp] theorem get_set_self (q : Quad α) (i : Fin 4) (a : α) : (q.set i a).get i = a := by
  fin_cases i <;> rfl

theorem get_set_ne (q : Quad α) {i j : Fin 4} (a : α) (h : i ≠ j) : (q.set i a).get j = q.get j := by
  rw [get_set, if_neg h]

@[simp] theorem get_ofFn (f : Fin 4 → α) (i : Fin 4) : (ofFn f).get i = f i := by
  fin_cases i <;> rfl

@[simp] theorem get_fill (a : α) (i : Fin 4) : (fill a).get i = a := by
  fin_cases i <;> rfl

@[simp] theorem get_map (f : α → β) (q : Quad α) (i : Fin 4) : (q.map f).get i = f (q.get i) := by
  fin_cases i <;> rfl

@[simp] theorem get_zipWith (f : α → β → γ) (p : Quad α) (q : Quad β) (i : Fin 4) :
    (zipWith f p q).get i = f (p.get i) (q.get i) := by
  fin_cases i <;> rfl

@[simp] theorem get_restrict (q : Quad α) (n : Nat) (d : α) (i : Fin 4) :
    (q.restrict n d).get i = if i.val < n then q.get i else d := by
  simp [restrict]

theorem get_modify (q : Quad α) (i j : Fin 4) (f : α → α) :
    (q.modify i f).get j = if i = j then f (q.get j) else q.get j := by
  simp only [modify, get_set]
  split <;> simp_all

@[simp] theorem get_modify_self (q : Quad α) (i : Fin 4) (f : α → α) :
    (q.modify i f).get i = f (q.get i) := by
  simp [modify]

theorem all_iff (p : α → Bool) (q : Quad α) : q.all p = true ↔ ∀ i, p (q.get i) = true := by
  constructor
  · intro h i
    simp only [all, Bool.and_eq_true] at h
    fin_cases i <;> simp_all [get]
  · intro h
    have h0 := h 0
    have h1 := h 1
    have h2 := h 2
    have h3 := h 3
    simp_all [all, get]

theorem any_iff (p : α → Bool) (q : Quad α) : q.any p = true ↔ ∃ i, p (q.get i) = true := by
  constructor
  · intro h
    simp only [any, Bool.or_eq_true] at h
    obtain ((h | h) | h) | h := h
    exacts [⟨0, h⟩, ⟨1, h⟩, ⟨2, h⟩, ⟨3, h⟩]
  · rintro ⟨i, h⟩
    fin_cases i <;> simp_all [any, get]

end Quad

namespace Bank

variable {α β : Type}

theorem get_set (b : Bank α) (i j : Fin 16) (a : α) : (b.set i a).get j = if i = j then a else b.get j := by
  fin_cases i <;> fin_cases j <;> rfl

@[simp] theorem get_set_self (b : Bank α) (i : Fin 16) (a : α) : (b.set i a).get i = a := by
  rw [get_set, if_pos rfl]

@[simp] theorem get_map (f : α → β) (b : Bank α) (i : Fin 16) : (b.map f).get i = f (b.get i) := by
  simp [get, map]

@[simp] theorem get_fill (a : α) (i : Fin 16) : (fill a).get i = a := by
  simp [get, fill]

end Bank

theorem mem_lanes4 (i : Fin 4) : i ∈ lanes4 := by
  fin_cases i <;> decide

@[simp] theorem mem_lanesBelow (n : Nat) (i : Fin 4) : i ∈ lanesBelow n ↔ i.val < n := by
  simp [lanesBelow, mem_lanes4]

/-! ## Byte order -/

@[simp] theorem le16_length (w : BitVec 16) : (le16 w).length = 2 := rfl

@[simp] theorem le24_length (w : BitVec 24) : (le24 w).length = 3 := rfl

@[simp] theorem le32_length (w : BitVec 32) : (le32 w).length = 4 := rfl

/-- The two bytes of a number, low byte first, joined again (R181). -/
@[simp] theorem join16_extract (w : BitVec 16) : join16 (w.extractLsb' 0 8) (w.extractLsb' 8 8) = w := by
  apply BitVec.eq_of_getLsbD_eq
  intro i hi
  simp only [join16, BitVec.getLsbD_append, BitVec.getLsbD_extractLsb']
  by_cases h : i < 8
  · simp [h]
  · simp [h, show i - 8 < 8 by omega, show 8 + (i - 8) = i by omega]

/-- The three bytes of a number joined again (R181). -/
@[simp] theorem join24_extract (w : BitVec 24) :
    join24 (w.extractLsb' 0 8) (w.extractLsb' 8 8) (w.extractLsb' 16 8) = w := by
  apply BitVec.eq_of_getLsbD_eq
  intro i hi
  simp only [join24, BitVec.getLsbD_append, BitVec.getLsbD_extractLsb']
  by_cases h : i < 8
  · simp [h]
  · by_cases h' : i - 8 < 8
    · simp [h, h', show 8 + (i - 8) = i by omega]
    · simp [h, h', show i - 8 - 8 < 8 by omega, show 16 + (i - 8 - 8) = i by omega]

/-- The four bytes of a number joined again (R181). -/
@[simp] theorem join32_extract (w : BitVec 32) :
    join32 (w.extractLsb' 0 8) (w.extractLsb' 8 8) (w.extractLsb' 16 8) (w.extractLsb' 24 8) = w := by
  apply BitVec.eq_of_getLsbD_eq
  intro i hi
  simp only [join32, BitVec.getLsbD_append, BitVec.getLsbD_extractLsb']
  by_cases h : i < 8
  · simp [h]
  · by_cases h' : i - 8 < 8
    · simp [h, h', show 8 + (i - 8) = i by omega]
    · by_cases h'' : i - 8 - 8 < 8
      · simp [h, h', h'', show 16 + (i - 8 - 8) = i by omega]
      · simp [h, h', h'', show i - 8 - 8 - 8 < 8 by omega, show 24 + (i - 8 - 8 - 8) = i by omega]

/-! ## Lengths of what travels (R182) -/

@[simp] theorem StationWire.bytes_length (e : StationWire) : e.bytes.length = 4 := rfl

@[simp] theorem Quad.toList_length {α : Type} (q : Quad α) : q.toList.length = 4 := rfl

theorem ConfigWire.bytes_length (c : ConfigWire) : c.bytes.length = 85 := by
  unfold ConfigWire.bytes
  simp only [List.length_append, le16_length, StationWire.bytes_length, Quad.toList_length, List.length_cons,
    List.length_nil]

theorem RecipeWire.bytes_length (r : RecipeWire) : r.bytes.length = 32 := by
  unfold RecipeWire.bytes NameWire.chars
  simp only [List.length_append, le16_length, le24_length, Quad.toList_length, List.length_cons, List.length_nil]

/-- A frame made good passes the first test of R176. -/
@[simp] theorem Frame.good_checkGood (code : Byte) (params : List Byte) :
    (Frame.good code params).checkGood = true := by
  simp [Frame.good, Frame.checkGood, Frame.computedCheck, Frame.len]

end Sys2Proof
end

