-- ==== Sys2Proof/Laws/State.lean ====
section
/-! SUPPORT. One lemma per field per update of the state. -/

namespace Sys2Proof.Machine

variable (s : State)

section
variable (x : WebTrack)

@[simp] theorem State.setWeb_web : (s.setWeb x).web = x := rfl
@[simp] theorem State.setWeb_verdict : (s.setWeb x).verdict = s.verdict := rfl
@[simp] theorem State.setWeb_acq : (s.setWeb x).acq = s.acq := rfl
@[simp] theorem State.setWeb_stroke : (s.setWeb x).stroke = s.stroke := rfl
@[simp] theorem State.setWeb_gate : (s.setWeb x).gate = s.gate := rfl
@[simp] theorem State.setWeb_mode : (s.setWeb x).mode = s.mode := rfl
@[simp] theorem State.setWeb_store : (s.setWeb x).store = s.store := rfl
@[simp] theorem State.setWeb_ports : (s.setWeb x).ports = s.ports := rfl
@[simp] theorem State.setWeb_events : (s.setWeb x).events = s.events := rfl
@[simp] theorem State.setWeb_resetHeld : (s.setWeb x).resetHeld = s.resetHeld := rfl
@[simp] theorem State.setWeb_pending : (s.setWeb x).pending = s.pending := rfl

end

section
variable (x : VerdictUnit)

@[simp] theorem State.setVerdict_web : (s.setVerdict x).web = s.web := rfl
@[simp] theorem State.setVerdict_verdict : (s.setVerdict x).verdict = x := rfl
@[simp] theorem State.setVerdict_acq : (s.setVerdict x).acq = s.acq := rfl
@[simp] theorem State.setVerdict_stroke : (s.setVerdict x).stroke = s.stroke := rfl
@[simp] theorem State.setVerdict_gate : (s.setVerdict x).gate = s.gate := rfl
@[simp] theorem State.setVerdict_mode : (s.setVerdict x).mode = s.mode := rfl
@[simp] theorem State.setVerdict_store : (s.setVerdict x).store = s.store := rfl
@[simp] theorem State.setVerdict_ports : (s.setVerdict x).ports = s.ports := rfl
@[simp] theorem State.setVerdict_events : (s.setVerdict x).events = s.events := rfl
@[simp] theorem State.setVerdict_resetHeld : (s.setVerdict x).resetHeld = s.resetHeld := rfl
@[simp] theorem State.setVerdict_pending : (s.setVerdict x).pending = s.pending := rfl

end

section
variable (x : Acquisition)

@[simp] theorem State.setAcq_web : (s.setAcq x).web = s.web := rfl
@[simp] theorem State.setAcq_verdict : (s.setAcq x).verdict = s.verdict := rfl
@[simp] theorem State.setAcq_acq : (s.setAcq x).acq = x := rfl
@[simp] theorem State.setAcq_stroke : (s.setAcq x).stroke = s.stroke := rfl
@[simp] theorem State.setAcq_gate : (s.setAcq x).gate = s.gate := rfl
@[simp] theorem State.setAcq_mode : (s.setAcq x).mode = s.mode := rfl
@[simp] theorem State.setAcq_store : (s.setAcq x).store = s.store := rfl
@[simp] theorem State.setAcq_ports : (s.setAcq x).ports = s.ports := rfl
@[simp] theorem State.setAcq_events : (s.setAcq x).events = s.events := rfl
@[simp] theorem State.setAcq_resetHeld : (s.setAcq x).resetHeld = s.resetHeld := rfl
@[simp] theorem State.setAcq_pending : (s.setAcq x).pending = s.pending := rfl

end

section
variable (x : StrokeEvaluator)

@[simp] theorem State.setStroke_web : (s.setStroke x).web = s.web := rfl
@[simp] theorem State.setStroke_verdict : (s.setStroke x).verdict = s.verdict := rfl
@[simp] theorem State.setStroke_acq : (s.setStroke x).acq = s.acq := rfl
@[simp] theorem State.setStroke_stroke : (s.setStroke x).stroke = x := rfl
@[simp] theorem State.setStroke_gate : (s.setStroke x).gate = s.gate := rfl
@[simp] theorem State.setStroke_mode : (s.setStroke x).mode = s.mode := rfl
@[simp] theorem State.setStroke_store : (s.setStroke x).store = s.store := rfl
@[simp] theorem State.setStroke_ports : (s.setStroke x).ports = s.ports := rfl
@[simp] theorem State.setStroke_events : (s.setStroke x).events = s.events := rfl
@[simp] theorem State.setStroke_resetHeld : (s.setStroke x).resetHeld = s.resetHeld := rfl
@[simp] theorem State.setStroke_pending : (s.setStroke x).pending = s.pending := rfl

end

section
variable (x : Gate)

@[simp] theorem State.setGate_web : (s.setGate x).web = s.web := rfl
@[simp] theorem State.setGate_verdict : (s.setGate x).verdict = s.verdict := rfl
@[simp] theorem State.setGate_acq : (s.setGate x).acq = s.acq := rfl
@[simp] theorem State.setGate_stroke : (s.setGate x).stroke = s.stroke := rfl
@[simp] theorem State.setGate_gate : (s.setGate x).gate = x := rfl
@[simp] theorem State.setGate_mode : (s.setGate x).mode = s.mode := rfl
@[simp] theorem State.setGate_store : (s.setGate x).store = s.store := rfl
@[simp] theorem State.setGate_ports : (s.setGate x).ports = s.ports := rfl
@[simp] theorem State.setGate_events : (s.setGate x).events = s.events := rfl
@[simp] theorem State.setGate_resetHeld : (s.setGate x).resetHeld = s.resetHeld := rfl
@[simp] theorem State.setGate_pending : (s.setGate x).pending = s.pending := rfl

end

section
variable (x : ModeController)

@[simp] theorem State.setMode_web : (s.setMode x).web = s.web := rfl
@[simp] theorem State.setMode_verdict : (s.setMode x).verdict = s.verdict := rfl
@[simp] theorem State.setMode_acq : (s.setMode x).acq = s.acq := rfl
@[simp] theorem State.setMode_stroke : (s.setMode x).stroke = s.stroke := rfl
@[simp] theorem State.setMode_gate : (s.setMode x).gate = s.gate := rfl
@[simp] theorem State.setMode_mode : (s.setMode x).mode = x := rfl
@[simp] theorem State.setMode_store : (s.setMode x).store = s.store := rfl
@[simp] theorem State.setMode_ports : (s.setMode x).ports = s.ports := rfl
@[simp] theorem State.setMode_events : (s.setMode x).events = s.events := rfl
@[simp] theorem State.setMode_resetHeld : (s.setMode x).resetHeld = s.resetHeld := rfl
@[simp] theorem State.setMode_pending : (s.setMode x).pending = s.pending := rfl

end

section
variable (x : RecipeStore)

@[simp] theorem State.setStore_web : (s.setStore x).web = s.web := rfl
@[simp] theorem State.setStore_verdict : (s.setStore x).verdict = s.verdict := rfl
@[simp] theorem State.setStore_acq : (s.setStore x).acq = s.acq := rfl
@[simp] theorem State.setStore_stroke : (s.setStore x).stroke = s.stroke := rfl
@[simp] theorem State.setStore_gate : (s.setStore x).gate = s.gate := rfl
@[simp] theorem State.setStore_mode : (s.setStore x).mode = s.mode := rfl
@[simp] theorem State.setStore_store : (s.setStore x).store = x := rfl
@[simp] theorem State.setStore_ports : (s.setStore x).ports = s.ports := rfl
@[simp] theorem State.setStore_events : (s.setStore x).events = s.events := rfl
@[simp] theorem State.setStore_resetHeld : (s.setStore x).resetHeld = s.resetHeld := rfl
@[simp] theorem State.setStore_pending : (s.setStore x).pending = s.pending := rfl

end

section
variable (x : Quad StationPort)

@[simp] theorem State.setPorts_web : (s.setPorts x).web = s.web := rfl
@[simp] theorem State.setPorts_verdict : (s.setPorts x).verdict = s.verdict := rfl
@[simp] theorem State.setPorts_acq : (s.setPorts x).acq = s.acq := rfl
@[simp] theorem State.setPorts_stroke : (s.setPorts x).stroke = s.stroke := rfl
@[simp] theorem State.setPorts_gate : (s.setPorts x).gate = s.gate := rfl
@[simp] theorem State.setPorts_mode : (s.setPorts x).mode = s.mode := rfl
@[simp] theorem State.setPorts_store : (s.setPorts x).store = s.store := rfl
@[simp] theorem State.setPorts_ports : (s.setPorts x).ports = x := rfl
@[simp] theorem State.setPorts_events : (s.setPorts x).events = s.events := rfl
@[simp] theorem State.setPorts_resetHeld : (s.setPorts x).resetHeld = s.resetHeld := rfl
@[simp] theorem State.setPorts_pending : (s.setPorts x).pending = s.pending := rfl

end

section
variable (x : Quad PortEvents)

@[simp] theorem State.setEvents_web : (s.setEvents x).web = s.web := rfl
@[simp] theorem State.setEvents_verdict : (s.setEvents x).verdict = s.verdict := rfl
@[simp] theorem State.setEvents_acq : (s.setEvents x).acq = s.acq := rfl
@[simp] theorem State.setEvents_stroke : (s.setEvents x).stroke = s.stroke := rfl
@[simp] theorem State.setEvents_gate : (s.setEvents x).gate = s.gate := rfl
@[simp] theorem State.setEvents_mode : (s.setEvents x).mode = s.mode := rfl
@[simp] theorem State.setEvents_store : (s.setEvents x).store = s.store := rfl
@[simp] theorem State.setEvents_ports : (s.setEvents x).ports = s.ports := rfl
@[simp] theorem State.setEvents_events : (s.setEvents x).events = x := rfl
@[simp] theorem State.setEvents_resetHeld : (s.setEvents x).resetHeld = s.resetHeld := rfl
@[simp] theorem State.setEvents_pending : (s.setEvents x).pending = s.pending := rfl

end

section
variable (rows : Quad (List Record))

@[simp] theorem State.setRows_web : (s.setRows rows).web = { s.web with rows := rows } := rfl
@[simp] theorem State.setRows_verdict : (s.setRows rows).verdict = s.verdict := rfl
@[simp] theorem State.setRows_acq : (s.setRows rows).acq = s.acq := rfl
@[simp] theorem State.setRows_stroke : (s.setRows rows).stroke = s.stroke := rfl
@[simp] theorem State.setRows_gate : (s.setRows rows).gate = s.gate := rfl
@[simp] theorem State.setRows_mode : (s.setRows rows).mode = s.mode := rfl
@[simp] theorem State.setRows_store : (s.setRows rows).store = s.store := rfl
@[simp] theorem State.setRows_ports : (s.setRows rows).ports = s.ports := rfl
@[simp] theorem State.setRows_events : (s.setRows rows).events = s.events := rfl
@[simp] theorem State.setRows_resetHeld : (s.setRows rows).resetHeld = s.resetHeld := rfl
@[simp] theorem State.setRows_pending : (s.setRows rows).pending = s.pending := rfl

end

end Sys2Proof.Machine
end

