-- ==== Sys2Proof/Laws/Ops.lean ====
section
/-! SUPPORT. What the shared operations can do, said once: the parameters' readers, finding records on the track,
the flags raised, and what each operation leaves alone. -/

namespace Sys2Proof.Machine

open Sys2Proof

/-! ## Parameters -/

theorem laneOf_eq_some {lanes : Nat} {b : Byte} {n : Lane} (h : b.toNat = n.val) (hn : n.val < lanes) :
    laneOf lanes b = some n := by
  have h4 := n.isLt
  simp only [laneOf, h]
  rw [if_pos ⟨h4, hn⟩]
  congr 1
  ext
  simp [Fin.ofNat, Nat.mod_eq_of_lt h4]

theorem laneOf_eq_none {lanes : Nat} {b : Byte} (h : lanes ≤ b.toNat) : laneOf lanes b = none := by
  rw [laneOf, if_neg]
  omega

theorem slotOf_eq_some {b : Byte} {n : RecipeSlot} (h : b.toNat = n.val) : slotOf b = some n := by
  have := n.isLt
  simp [slotOf, h]

theorem slotOf_eq_none {b : Byte} (h : 16 ≤ b.toNat) : slotOf b = none := by
  rw [slotOf, if_neg]
  omega

@[simp] theorem portStationOf_code (st : PortStation) : portStationOf st.code = some st := by
  cases st <;> rfl

/-! ## Records -/

/-- R9: a search finds the PRODUCT record that alone carries the serial. -/
theorem findInRow_eq_some {row : List Record} {n : Serial} {k : Nat} {p : Product}
    (h : row[k]? = some (.product p)) (hs : p.serial = n)
    (hu : ∀ (j : Nat) (q : Product), row[j]? = some (.product q) → q.serial = n → j = k) :
    findInRow n row = some (k, p) := by
  induction row generalizing k with
  | nil => simp at h
  | cons r rest ih =>
    rcases k with _ | k
    · simp only [List.getElem?_cons_zero, Option.some.injEq] at h
      subst h
      simp [findInRow, hs]
    · have ih := ih (k := k) (by simpa using h) fun j q h1 h2 => by
        have := hu (j + 1) q (by simpa using h1) h2
        omega
      rcases r with q | _ | _
      · have : q.serial ≠ n := fun e => by
          have := hu 0 q rfl e
          omega
        simp [findInRow, this, ih]
      · simp [findInRow, ih]
      · simp [findInRow, ih]

theorem findInRow_eq_none {row : List Record} {n : Serial}
    (h : ∀ (j : Nat) (q : Product), row[j]? = some (.product q) → q.serial ≠ n) : findInRow n row = none := by
  induction row with
  | nil => rfl
  | cons r rest ih =>
    have ih := ih fun j q h1 => h (j + 1) q (by simpa using h1)
    rcases r with q | _ | _
    · simp [findInRow, h 0 q rfl, ih]
    · simp [findInRow, ih]
    · simp [findInRow, ih]

/-- What a search answers stands in the row and carries the serial. -/
theorem findInRow_sound {row : List Record} {n : Serial} {k : Nat} {p : Product}
    (h : findInRow n row = some (k, p)) : row[k]? = some (.product p) ∧ p.serial = n := by
  induction row generalizing k with
  | nil => simp [findInRow] at h
  | cons r rest ih =>
    have next (h : (findInRow n rest).map (fun x => (x.1 + 1, x.2)) = some (k, p)) :
        (r :: rest)[k]? = some (.product p) ∧ p.serial = n := by
      rw [Option.map_eq_some_iff] at h
      obtain ⟨⟨j, q⟩, h1, h2⟩ := h
      cases h2
      simpa using ih h1
    rcases r with q | _ | _
    · rw [findInRow] at h
      split at h
      · cases h
        exact ⟨rfl, by assumption⟩
      · exact next h
    · exact next h
    · exact next h

theorem modify_onProduct {row : List Record} {k : Nat} {p : Product} (f : Product → Product)
    (h : row[k]? = some (.product p)) : row.modify k (Record.onProduct f) = row.set k (.product (f p)) := by
  rw [List.modify_eq_set_getElem?, h]
  rfl

@[simp] theorem Record.onProduct_identity (f : Product → Product)
    (h : ∀ p, (f p).serial = p.serial ∧ (f p).recipe = p.recipe) (r : Record) :
    (r.onProduct f).identity = r.identity := by
  cases r <;> simp [Record.onProduct, Record.identity, Record.kind, Record.product?, h]

theorem rowCount_eq_zero {row : List Record} :
    rowCount row = 0 ↔ ∀ (k : Nat) (p : Product), row[k]? ≠ some (.product p) := by
  rw [rowCount, List.countP_eq_zero]
  constructor
  · intro h k p hk
    exact h _ (List.mem_of_getElem? hk) rfl
  · intro h r hr
    obtain ⟨k, hk⟩ := List.getElem?_of_mem hr
    cases r with
    | product p => exact absurd hk (h k p)
    | void => simp [Record.isProduct, Record.product?]
    | untracked => simp [Record.isProduct, Record.product?]

/-- R30, R133: the count is zero exactly when no PRODUCT record stands on the track. -/
theorem productCount_eq_zero {s : State} : productCount s.web.rows = 0 ↔ s.noProduct := by
  have h : productCount s.web.rows = 0 ↔ ∀ lane : Lane, rowCount (s.web.rows.get lane) = 0 := by
    constructor
    · intro h lane
      simp only [productCount] at h
      fin_cases lane <;> simp only [Quad.get] <;> omega
    · intro h
      have h0 := h 0
      have h1 := h 1
      have h2 := h 2
      have h3 := h 3
      simp only [Quad.get] at h0 h1 h2 h3
      simp only [productCount]
      omega
  rw [h]
  simp only [rowCount_eq_zero]
  exact Iff.rfl

/-- R163: the in-use test answers whether a record or an assignment names the slot. -/
theorem slotInUse_iff {s : State} {slot : RecipeSlot} : s.slotInUse slot = true ↔ s.slotNamed slot := by
  simp only [State.slotInUse, State.slotNamed, Bool.or_eq_true, Quad.any_iff, List.any_eq_true, mem_lanesBelow,
    beq_iff_eq, State.recordAt]
  refine or_congr ?_ Iff.rfl
  constructor
  · rintro ⟨lane, h⟩
    rw [rowNames, List.any_eq_true] at h
    obtain ⟨r, hr, h⟩ := h
    obtain ⟨k, hk⟩ := List.getElem?_of_mem hr
    cases r with
    | product p => exact ⟨lane, k, p, hk, by simpa [Record.product?] using h⟩
    | void => simp [Record.product?] at h
    | untracked => simp [Record.product?] at h
  · rintro ⟨lane, k, p, hk, hp⟩
    refine ⟨lane, ?_⟩
    rw [rowNames, List.any_eq_true]
    exact ⟨_, List.mem_of_getElem? hk, by simpa [Record.product?] using hp⟩

theorem laneRecipeValid_iff {s : State} {lane : Lane} : s.laneRecipeValid lane = true ↔ s.assignedValid lane := by
  unfold State.laneRecipeValid State.assignedValid RecipeStore.recipeValid RecipeStore.recipeState
  cases s.mode.assignments.get lane <;> simp

/-! ## What an operation can change -/

/-- Raising a flag on the port a rule names changes nothing but events. -/
theorem State.raiseAt_eq (s : State) (p : Option Port) (f : EventFlag) :
    s.raiseAt p f = s.setEvents (s.raiseAt p f).events := by
  cases p <;> rfl

/-- A flag raised where a rule names a port: on that port alone. -/
theorem State.raiseAt_flagSet (s : State) (p : Option Port) (f : EventFlag) (port : Port) (g : EventFlag) :
    (s.raiseAt p f).flagSet port g ↔ s.flagSet port g ∨ (p = some port ∧ g = f) := by
  cases p with
  | none => simp [State.raiseAt]
  | some p =>
    by_cases h : p = port
    · subst h
      have : (EventFlag.mask f).getLsbD g.bit = decide (g = f) := by
        cases f <;> cases g <;> rfl
      simp [State.raiseAt, State.raiseOn, State.flagSet, PortEvents.raise, this]
    · simp [State.raiseAt, State.raiseOn, State.flagSet, Quad.get_modify, h]

theorem State.raiseAll_flagSet (s : State) (f : EventFlag) (port : Port) (g : EventFlag) :
    (s.raiseAll f).flagSet port g ↔ s.flagSet port g ∨ g = f := by
  have : (EventFlag.mask f).getLsbD g.bit = decide (g = f) := by
    cases f <;> cases g <;> rfl
  simp [State.raiseAll, State.flagSet, PortEvents.raise, this]

/-- R72: the state an evaluation gives is the one the samples have under the recipe. -/
theorem readyUnder_holds (recipe : Option Recipe) (l : LaneSamples) :
    (readyUnder recipe l).holds recipe l := by
  cases recipe with
  | none => rfl
  | some r =>
    simp only [readyUnder, platenMean]
    rcases hf : l.faulted with _ | _
    · by_cases hb : l.buffer.length < 8
      · simp [hb, ReadyState.holds, hf]
      · have hb' : 8 ≤ l.buffer.length := by omega
        simp only [hb, if_false, Bool.false_eq_true]
        split
        · exact ⟨hf, hb', r, rfl, by assumption⟩
        · split
          · exact ⟨hf, hb', r, rfl, by omega, by assumption⟩
          · exact ⟨hf, hb', r, rfl, by omega, by omega⟩
    · simp [ReadyState.holds, hf]

/-- An evaluation of a lane changes that lane's ready state and events, and nothing else. -/
theorem State.evaluateLane_eq (s : State) (added : Bool) (lane : Lane) :
    s.evaluateLane added lane =
      (s.setReady lane (s.readyNow lane)).setEvents (s.evaluateLane added lane).events := by
  unfold State.evaluateLane
  simp only []
  split
  · exact State.raiseAt_eq _ _ _
  · rfl

/-- Evaluations change ready states and events, and nothing else. -/
theorem State.evaluateLanes_eq (s : State) (before : Nat) :
    ∃ lanes events, s.evaluateLanes before = (s.setAcq { s.acq with lanes := lanes }).setEvents events := by
  unfold State.evaluateLanes
  generalize lanesBelow s.web.lanes = l
  suffices h : ∀ t : State, (∃ lanes events, t = (s.setAcq { s.acq with lanes := lanes }).setEvents events) →
      ∃ lanes events, l.foldl (fun s n => s.evaluateLane (decide (before ≤ n.val)) n) t =
        (s.setAcq { s.acq with lanes := lanes }).setEvents events from h s ⟨s.acq.lanes, s.events, rfl⟩
  induction l with
  | nil => exact fun t h => h
  | cons a l ih =>
    intro t ⟨lanes, events, ht⟩
    refine ih _ ⟨(t.setReady a (t.readyNow a)).acq.lanes,
      (t.evaluateLane (decide (before ≤ a.val)) a).events, Eq.trans (State.evaluateLane_eq t _ a) ?_⟩
    subst ht
    rfl

/-- The publication of a report: the evaluator is IDLE with the report, idle sampling restarts where the mode
samples, and events may change; nothing else does. -/
theorem State.publish_eq (s : State) (now : Time) (r : StrokeReport) :
    s.publish now r =
      (((s.setStroke { s.stroke with phase := .idle, report := some r }).setAcq
        { s.acq with idleDue := if s.mode.mode.active then some (now + ms 50) else s.acq.idleDue }).setEvents
        (s.publish now r).events) := by
  unfold State.publish
  rcases h : s.mode.mode.active with _ | _
  · simp only [State.setStroke_mode, h, Bool.false_eq_true, if_false]
    rw [State.raiseAt_eq]
    rfl
  · simp only [State.setStroke_mode, h, if_true]
    rw [State.raiseAt_eq]
    rfl

/-- The end of a stroke: its verdicts in the rows, its report published. -/
theorem State.endStroke_eq (s : State) (now : Time) (k : Stroke) (kind : EndKind)
    (verdict : StrokeLane → ReportVerdict) :
    s.endStroke now k kind verdict =
      ((((s.setRows (k.writeTargets verdict s.web.rows)).setStroke
          { s.stroke with phase := .idle, report := some (k.report kind verdict) }).setAcq
        { s.acq with idleDue := if s.mode.mode.active then some (now + ms 50) else s.acq.idleDue }).setEvents
        (s.endStroke now k kind verdict).events) := by
  unfold State.endStroke
  rw [State.publish_eq]
  rfl

/-- A drain check changes at most the mode, with its flag. -/
theorem State.drainCheck_cases (s : State) :
    (s.mode.mode = .drain ∧ s.noProduct ∧ s.drainCheck = s.changeMode .setup) ∨
      (¬(s.mode.mode = .drain ∧ s.noProduct) ∧ s.drainCheck = s) := by
  rw [← productCount_eq_zero]
  by_cases h : s.mode.mode = .drain ∧ productCount s.web.rows = 0
  · exact .inl ⟨h.1, h.2, if_pos h⟩
  · exact .inr ⟨h, if_neg h⟩

/-- R158: what a reset supplies is what the store holds when it passes its checks, and the factory default
settings otherwise. -/
theorem RecipeStore.supplies_iff (r : RecipeStore) (c : Configuration) : r.supplies c ↔ r.supplied = c := by
  unfold RecipeStore.supplies RecipeStore.supplied
  rcases hw : r.config.contents with _ | w
  · simp [eq_comm]
  · rcases hf : configFault w with _ | _ <;> simp [hf, eq_comm]

end Sys2Proof.Machine
end

