-- ==== Sys2Proof/Laws/Requests.lean ====
section
/-! SUPPORT. Requests at the ports: no request reads a port, and a request whose frame completes on an idle port is
taken and answered at once. -/

namespace Sys2Proof.Machine
open Sys2Proof

theorem foldl_commute {α : Type} (f : State → α → State) (g : State → State)
    (h : ∀ s a, f (g s) a = g (f s a)) (l : List α) (s : State) : l.foldl f (g s) = g (l.foldl f s) := by
  induction l generalizing s with
  | nil => rfl
  | cons a l ih => rw [List.foldl_cons, List.foldl_cons, h, ih]

variable (s : State) (q : Quad StationPort)

theorem State.raiseAt_setPorts (p : Option Port) (f : EventFlag) : (s.setPorts q).raiseAt p f = (s.raiseAt p f).setPorts q := by
  cases p <;> rfl

theorem State.evaluateLane_setPorts (b : Bool) (lane : Lane) :
    (s.setPorts q).evaluateLane b lane = (s.evaluateLane b lane).setPorts q := by
  unfold State.evaluateLane
  rcases h : (b || s.readyNow lane != (s.acq.lanes.get lane).ready) with _ | _
  · have h' : (b || (s.setPorts q).readyNow lane != ((s.setPorts q).acq.lanes.get lane).ready) = false := h
    simp only [h, h', Bool.false_eq_true, if_false]
    rfl
  · have h' : (b || (s.setPorts q).readyNow lane != ((s.setPorts q).acq.lanes.get lane).ready) = true := h
    simp only [h, h', if_true]
    exact State.raiseAt_setPorts (s.setReady lane (s.readyNow lane)) q _ _

theorem State.evaluateLanes_setPorts (n : Nat) :
    (s.setPorts q).evaluateLanes n = (s.evaluateLanes n).setPorts q :=
  foldl_commute _ (fun s => s.setPorts q) (fun s a => State.evaluateLane_setPorts s q _ a) _ s

theorem State.publish_setPorts (now : Time) (r : StrokeReport) :
    (s.setPorts q).publish now r = (s.publish now r).setPorts q := by
  unfold State.publish
  rcases h : s.mode.mode.active with _ | _
  · simp only [State.setStroke_mode, State.setPorts_mode, h, Bool.false_eq_true, if_false]
    exact State.raiseAt_setPorts (s.setStroke { s.stroke with phase := .idle, report := some r }) q _ _
  · simp only [State.setStroke_mode, State.setPorts_mode, h, if_true]
    exact State.raiseAt_setPorts ((s.setStroke { s.stroke with phase := .idle, report := some r }).startIdle now) q _ _

theorem State.abortStroke_setPorts (now : Time) :
    (s.setPorts q).abortStroke now = (s.abortStroke now).setPorts q := by
  simp only [State.abortStroke, State.setPorts_stroke]
  split
  · rename_i k _
    exact State.publish_setPorts (s.setRows (k.writeTargets k.abortVerdict s.web.rows)) q _ _
  · rfl

theorem State.drainCheck_setPorts : (s.setPorts q).drainCheck = s.drainCheck.setPorts q := by
  simp only [State.drainCheck, State.setPorts_mode, State.setPorts_web]
  rw [apply_ite (fun s : State => s.setPorts q)]
  rfl

/-- A request's outcome with the ports of its state replaced. -/
def portsReplaced (q : Quad StationPort) (x : State × Reply) : State × Reply := (x.1.setPorts q, x.2)

theorem takeEnterStandby_setPorts (now : Time) :
    takeEnterStandby now (s.setPorts q) = portsReplaced q (takeEnterStandby now s) := by
  have h : (s.setPorts q).enterStandby now = (s.enterStandby now).setPorts q := by
    have hx : ((s.setPorts q).changeMode .standby).abortStroke now =
        ((s.changeMode .standby).abortStroke now).setPorts q :=
      State.abortStroke_setPorts (s.changeMode .standby) q now
    simp only [State.enterStandby]
    rw [hx]
    exact State.evaluateLanes_setPorts (((s.changeMode .standby).abortStroke now).setAcq _) q _
  simp only [takeEnterStandby, State.setPorts_mode, State.setPorts_store, h]
  rcases s.mode.mode <;> simp only [apply_ite (portsReplaced q)] <;> rfl

theorem takePostVerdict_setPorts (port : Port) (station lane : Byte) (serial : Serial) (value detail : Byte) :
    takePostVerdict port station lane serial value detail (s.setPorts q) =
      portsReplaced q (takePostVerdict port station lane serial value detail s) := by
  have h : postTarget (s.setPorts q) = postTarget s := rfl
  simp only [takePostVerdict, postRecord, State.setPorts_mode, State.setPorts_web, State.setPorts_verdict, h]
  rcases postTarget s station lane serial value detail with _ | ⟨st, n⟩
  · simp only [apply_ite (portsReplaced q)]
    rfl
  · rcases hf : findInRow serial (s.web.rows.get n) with _ | ⟨slot, p⟩ <;>
      simp only [hf, apply_ite (portsReplaced q)] <;> rfl

theorem holdRequest_setPorts (port : Port) (lane : Byte) (serial : Serial)
    (act act' : Lane → Nat → Product → State × Reply)
    (h : ∀ n slot p, act' n slot p = portsReplaced q (act n slot p)) :
    holdRequest port lane serial (s.setPorts q) act' = portsReplaced q (holdRequest port lane serial s act) := by
  simp only [holdRequest, State.setPorts_mode, State.setPorts_web, State.setPorts_verdict, h]
  rcases laneOf s.web.lanes lane with _ | n
  · simp only [apply_ite (portsReplaced q)]
    rfl
  · rcases hf : findInRow serial (s.web.rows.get n) with _ | ⟨slot, p⟩ <;>
      simp only [hf, apply_ite (portsReplaced q)] <;> rfl

/-- No request reads a port: what it does and answers is the same whatever the ports hold. -/
theorem takeRequest_setPorts (now : Time) (port : Port) (r : Request) :
    takeRequest now port r (s.setPorts q) = portsReplaced q (takeRequest now port r s) := by
  have hu : (s.setPorts q).slotInUse = s.slotInUse := rfl
  cases r with
  | identify => rfl
  | readLineStatus => rfl
  | enterStandby => exact takeEnterStandby_setPorts ..
  | leaveStandby =>
    simp only [takeRequest, takeLeaveStandby, State.setPorts_mode, State.setPorts_store]
    rcases s.mode.mode <;> simp only [apply_ite (portsReplaced q)] <;> rfl
  | start =>
    have h : (s.setPorts q).startRefusal = s.startRefusal := rfl
    simp only [takeRequest, takeStart, State.setPorts_mode, h]
    rcases s.mode.mode <;> rcases s.startRefusal <;> rfl
  | stop =>
    have h : ((s.setPorts q).changeMode .drain).drainCheck = ((s.changeMode .drain).drainCheck).setPorts q :=
      State.drainCheck_setPorts (s.changeMode .drain) q
    simp only [takeRequest, takeStop, State.setPorts_mode, h]
    rcases s.mode.mode <;> rfl
  | declareWebBreak =>
    simp only [takeRequest, takeDeclareWebBreak, State.setPorts_mode]
    rcases s.mode.mode <;> rfl
  | setLaneMask set =>
    have h : (s.setPorts q).maskRefusal = s.maskRefusal := rfl
    simp only [takeRequest, takeSetLaneMask, State.setPorts_mode, h]
    rcases s.mode.mode <;> rcases s.maskRefusal set <;> rfl
  | setLaneRecipe lane presence slot =>
    have h : (s.setPorts q).assignRefusal = s.assignRefusal := rfl
    have h' : ∀ n r, (s.setPorts q).assign n r = (s.assign n r).setPorts q := fun n r =>
      State.evaluateLane_setPorts (s.setMode { s.mode with assignments := s.mode.assignments.set n r }) q false n
    simp only [takeRequest, takeSetLaneRecipe, State.setPorts_mode, State.setPorts_web, h, h']
    rcases assignmentTarget s.web.lanes lane presence slot with _ | ⟨n, r⟩
    · rcases s.mode.mode <;> rfl
    · rcases hr : s.assignRefusal n r <;> rcases s.mode.mode <;> simp only [hr] <;> rfl
  | resetPart => rfl
  | postVerdict station lane serial value detail => exact takePostVerdict_setPorts ..
  | setHold lane serial =>
    refine holdRequest_setPorts s q port lane serial _ _ fun n slot p => ?_
    simp only [apply_ite (portsReplaced q)]
    rfl
  | clearHold lane serial =>
    refine holdRequest_setPorts s q port lane serial _ _ fun n slot p => ?_
    simp only [apply_ite (portsReplaced q)]
    rfl
  | readRecord lane slot =>
    simp only [takeRequest, takeReadRecord, State.setPorts_mode, State.setPorts_web]
    rcases laneOf s.web.lanes lane with _ | n
    · simp only [apply_ite (portsReplaced q)]
      rfl
    · rcases hr : (s.web.rows.get n)[slot.toNat]? <;> simp only [hr, apply_ite (portsReplaced q)] <;> rfl
  | findSerial serial =>
    simp only [takeRequest, takeFindSerial, State.setPorts_mode, State.setPorts_web]
    rcases hf : findOnTrack s.web.rows serial <;> simp only [apply_ite (portsReplaced q)] <;> rfl
  | readPlane lane selector =>
    simp only [takeRequest, takeReadPlane, State.setPorts_mode, State.setPorts_web]
    rcases laneOf s.web.lanes lane <;> rcases planeWidth selector <;> simp only [apply_ite (portsReplaced q)] <;> rfl
  | readStrokeReport =>
    simp only [takeRequest, takeReadStrokeReport, State.setPorts_mode, apply_ite (portsReplaced q)]
    rfl
  | readPlatens =>
    simp only [takeRequest, takeReadPlatens, State.setPorts_mode, apply_ite (portsReplaced q)]
    rfl
  | readDischargeLog first count =>
    simp only [takeRequest, takeReadDischargeLog, State.setPorts_mode, apply_ite (portsReplaced q)]
    rfl
  | readEvents => rfl
  | setEventEnable set =>
    simp only [takeRequest, takeSetEventEnable, apply_ite (portsReplaced q)]
    rfl
  | writeConfiguration contents =>
    simp only [takeRequest, takeWriteConfiguration, State.setPorts_mode, State.setPorts_web, State.setPorts_store]
    rcases configFault contents <;> simp only [apply_ite (portsReplaced q)] <;> rfl
  | readConfiguration =>
    simp only [takeRequest, takeReadConfiguration, State.setPorts_mode, apply_ite (portsReplaced q)]
    rfl
  | writeRecipe slot contents =>
    simp only [takeRequest, takeWriteRecipe, State.setPorts_mode, State.setPorts_store, hu]
    rcases slotOf slot <;> rcases recipeFault contents <;> simp only [apply_ite (portsReplaced q)] <;> rfl
  | readRecipe slot =>
    simp only [takeRequest, takeReadRecipe, State.setPorts_mode, State.setPorts_store, hu]
    rcases slotOf slot <;> simp only [apply_ite (portsReplaced q)] <;> rfl
  | setPortMask target lane mask =>
    simp only [takeRequest, takeSetPortMask, State.setPorts_mode, State.setPorts_web]
    rcases portOf target <;> rcases laneOf s.web.lanes lane <;> simp only [apply_ite (portsReplaced q)] <;> rfl
  | readPortMask target =>
    simp only [takeRequest, takeReadPortMask]
    rcases portOf target <;> rfl

/-- The ports a request leaves are the ports it found. -/
theorem takeRequest_ports (now : Time) (port : Port) (r : Request) :
    (takeRequest now port r s).1.ports = s.ports := by
  have h := congrArg (fun x => x.1.ports) (takeRequest_setPorts s s.ports now port r)
  exact h

/-- A request whose frame completes on an idle port is taken at once, and its reply begins to be sent: nothing but the
port differs from what the request's own effect leaves. -/
theorem submit_idle {port : Port} (h : s.portIdle port) (now : Time) (r : Request) :
    submit now port r s =
      (takeRequest now port r s).1.answering port r.code (takeRequest now port r s).2.status
        (takeRequest now port r s).2.data := by
  obtain ⟨h1, h2, h3⟩ := h
  simp only [submit, deliver, State.hunt, h1, Bool.false_eq_true, if_false, State.setPorts_ports, Quad.get_modify_self, h2, h3]
  have hp := takeRequest_ports s now port r
  simp only [answerRequest, respond, takeRequest_setPorts, portsReplaced, State.buildResponse, State.answering,
    State.setPorts_ports, State.setPorts_events]
  simp only [State.setPorts, PortEvents.attention, hp]
  congr 1
  apply Quad.ext_get
  intro i
  by_cases hi : port = i
  · subst hi
    simp [bne, beq_eq_decide]
  · simp [Quad.get_modify, Quad.get_set, hi]
end Sys2Proof.Machine
end

