-- ==== Sys2Proof/WellFormed.lean ====
section
/-! DEFINITION. When a command's operands are those its row of the opcode table speaks of. Widths are
carried by the types; what is left is checked here. `exec` is total on ill-formed commands too: it follows
the port rules on what actually arrives. -/

namespace Sys2Proof

/-- R172: a frame's LEN is 1..120, so it has at most 119 parameter bytes. -/
def Frame.lengthOk (f : Frame) : Bool := decide (f.params.length ≤ 119)

/-- R173: a LEN byte the receiver refuses. -/
def badLen (len : Byte) : Bool := len.toNat == 0 || decide (120 < len.toNat)

/-- The operands are those the command's row speaks of. -/
def Instr.wellFormed : Instr → Bool
  | .badLenFrame begun now _ len => decide (begun ≤ now) && badLen len
  | .byteReceived begun now _ _ _ => decide (begun ≤ now)
  | .frameHeld _ _ frame => frame.lengthOk
  | .lostFrame _ _ frame => frame.lengthOk
  | .badCheck _ _ frame => frame.lengthOk && !frame.checkGood
  | .unknown _ _ code params => decide (params.length ≤ 119) && (requestLen code).isNone
  | .storeWriteCompletion now accepted => decide (accepted ≤ now)
  | .indexEdge _ _ => true
  | .sealRisingEdge _ _ => true
  | .round _ _ _ => true
  | .roundCap _ => true
  | .sealFallingEdge _ => true
  | .idlePass _ _ => true
  | .rejectPulseExpiry _ _ => true
  | .selfCheckExpiry _ _ => true
  | .storeWriteDeadline _ => true
  | .powerOn _ => true
  | .resetLineAssert _ => true
  | .resetLineRelease _ => true
  | .partResetTaken _ _ => true
  | .interByteGap _ _ => true
  | .responseSent _ _ => true
  | .identify _ _ => true
  | .readLineStatus _ _ => true
  | .enterStandby _ _ => true
  | .leaveStandby _ _ => true
  | .start _ _ => true
  | .stop _ _ => true
  | .declareWebBreak _ _ => true
  | .setLaneMask _ _ _ => true
  | .setLaneRecipe _ _ _ _ _ => true
  | .resetPart _ _ => true
  | .postVerdict _ _ _ _ _ _ _ => true
  | .setHold _ _ _ _ => true
  | .clearHold _ _ _ _ => true
  | .readRecord _ _ _ _ => true
  | .findSerial _ _ _ => true
  | .readPlane _ _ _ _ => true
  | .readStrokeReport _ _ => true
  | .readPlatens _ _ => true
  | .readDischargeLog _ _ _ _ => true
  | .readEvents _ _ => true
  | .setEventEnable _ _ _ => true
  | .writeConfiguration _ _ _ => true
  | .readConfiguration _ _ => true
  | .writeRecipe _ _ _ _ => true
  | .readRecipe _ _ _ => true
  | .setPortMask _ _ _ _ _ => true
  | .readPortMask _ _ _ => true

end Sys2Proof
end

