-- ==== Sys2Proof/Tests/Slice0.lean ====
section
/-! SUPPORT. The package's own tests. The expected values come from the manual's worked figures and sequences, named
beside each test. -/

namespace Sys2Proof.Tests

open Sys2Proof Sys2Proof.Machine

-- One proof at a time: this many small evaluations at once would hold a thread, and its stack, each.
set_option Elab.async false

/-! ## WellFormed: each check refuses an ill-formed command -/

theorem test_wf_badLen_of_good_len : (Instr.badLenFrame 0 1 0 120).wellFormed = false := by decide +kernel
theorem test_wf_badLen_before_begun : (Instr.badLenFrame 2 1 0 121).wellFormed = false := by decide +kernel
theorem test_wf_badLen_accepts : (Instr.badLenFrame 0 1 0 121).wellFormed = true := by decide +kernel
theorem test_wf_byte_before_begun : (Instr.byteReceived 2 1 0 0xA5 true).wellFormed = false := by decide +kernel
theorem test_wf_completion_before_acceptance : (Instr.storeWriteCompletion 1 2).wellFormed = false := by decide +kernel

/-- A frame of one parameter more than LEN 120 allows. -/
def longFrame : Frame := Frame.good 0x01 (List.replicate 120 0)

theorem test_wf_frameHeld_too_long : (Instr.frameHeld 0 0 longFrame).wellFormed = false := by decide +kernel
theorem test_wf_lostFrame_too_long : (Instr.lostFrame 0 0 longFrame).wellFormed = false := by decide +kernel
theorem test_wf_badCheck_too_long :
    (Instr.badCheck 0 0 { longFrame with check := 0 }).wellFormed = false := by decide +kernel
theorem test_wf_unknown_too_long :
    (Instr.unknown 0 0 0x7F (List.replicate 120 0)).wellFormed = false := by decide +kernel
theorem test_wf_badCheck_good : (Instr.badCheck 0 0 (Frame.good 0x01 [])).wellFormed = false := by decide +kernel
theorem test_wf_unknown_known_code : (Instr.unknown 0 0 0x4D []).wellFormed = false := by decide +kernel

/-! ## Frames: the check bytes worked in 8.3 -/

theorem test_identify_frame : (Request.frame .identify).bytes = [0xA5, 0x01, 0x01, 0x12] := by decide +kernel
theorem test_readEvents_frame : (Request.frame .readEvents).bytes = [0xA5, 0x01, 0x40, 0xD2] := by decide +kernel
theorem test_badCheck_response :
    ({ code := 0, status := .badCheck, attention := false, lost := false, data := [] } : Response).bytes =
      [0x5A, 0x03, 0x00, 0x02, 0x00, 0x10] := by decide +kernel

/-! ## Conversions: the figures worked in 3.2, and R65 about 2048 and 40 -/

def plantCal : LaneCalibration := { base := -200, span := 4000 }

theorem test_temp_conversions :
    [1844, 1843, 9, 8, 4086, 4095].map (fun c => convertTemp plantCal (BitVec.ofNat 12 c)) =
      [some 1600, some 1599, some 0, none, some 3000, none] := by decide +kernel
theorem test_press_conversions :
    [1024, 102, 103, 0, 4087].map (fun c => convertPress factoryDefault.calibration (BitVec.ofNat 12 c)) =
      [some 250, some 24, some 25, some 0, none] := by decide +kernel
theorem test_reference_tolerance :
    [2007, 2008, 2088, 2089].map (fun c => refOk factoryDefault.calibration (BitVec.ofNat 12 c)) =
      [false, true, true, false] := by decide +kernel

/-- 3.8: the mean of pass 8 is 1543, of pass 9 1549, of pass 10 1553. -/
theorem test_platen_means :
    let b8 := [1520, 1530, 1538, 1544, 1548, 1552, 1556, 1560].foldl pushSample []
    let b9 := pushSample b8 1564
    [platenMean b8, platenMean b9, platenMean (pushSample b9 1566)] = [some 1543, some 1549, some 1553] := by
  decide +kernel

/-! ## A line to test on -/

/-- Recipe 3 of the manual's sequences, "AA-4 card" (2.7, 3.8, 4.9, 5.6). -/
def cardRecipe : RecipeWire where
  name := ⟨⟨0x41, 0x41, 0x2D, 0x34⟩, ⟨0x20, 0x63, 0x61, 0x72⟩, ⟨0x64, 0, 0, 0⟩⟩
  items := 4
  required := 0x1E
  tAct := 1450
  tMax := 2100
  eCap := 400
  margin := 100
  pMin := 25
  nMin := 200
  dMin := 30000
  dMax := 60000

/-- A configuration block whose settings are the factory default's but for the assignments (7.3). -/
def plantConfig : ConfigWire where
  lanes := 2
  length := 24
  minInterval := 50
  rejectWidth := 40
  form := ⟨1, 2, 2, 0⟩
  load := ⟨1, 6, 3, 1⟩
  card := ⟨1, 9, 0, 0xFF⟩
  heatSeal := ⟨1, 11, 0, 3⟩
  inspect := ⟨1, 16, 4, 2⟩
  aux := ⟨0, 0, 1, 0xFF⟩
  gatePort := 3
  masks := ⟨Quad.fill 0x41, Quad.fill 0x02, Quad.fill 0x10, Quad.fill 0x40⟩
  enables := Quad.fill 0x3FF
  bauds := Quad.fill 1
  laneMask := 3
  assignments := Quad.fill 3
  base := Quad.fill 0xFF38
  span := Quad.fill 4000
  pspan := 1000
  refExpected := 2048
  refTolerance := 40
  deadline := 1

theorem test_plant_config : configFault plantConfig = none ∧
    configurationOf plantConfig = { factoryDefault with assignments := Quad.fill (some 3) } := by decide +kernel
theorem test_card_recipe : recipeFault cardRecipe = none := by decide +kernel
/-- 7.8: T_max 1530 is below T_act 1500 + 50, field 5. -/
theorem test_recipe_field5 : recipeFault { cardRecipe with tAct := 1500, tMax := 1530 } = some 5 := by decide +kernel
/-- 7.8: INSPECT at slot 26, window 4, on L 30 fails item 9; at slot 22 it passes. -/
theorem test_config_item9 :
    configFault { plantConfig with length := 30, inspect := ⟨1, 26, 4, 2⟩ } = some 9 ∧
    configFault { plantConfig with length := 30, inspect := ⟨1, 22, 4, 2⟩ } = none := by decide +kernel

/-- The line in a mode, with PRODUCT records placed on its track: recipe 3 VALID and assigned to both lanes, the
configuration VALID, 200 serials issued, the last INDEX edge taken at time 0. -/
def line (m : Mode) (products : List (Lane × Nat × Product)) : State :=
  { State.reset with
    web :=
      { State.reset.web with
        rows := products.foldl (fun rows x => rows.set x.1 ((rows.get x.1).set x.2.1 (.product x.2.2)))
          State.reset.web.rows
        nextSerial := 201
        indexCount := 100
        lastTaken := some 0 }
    acq := { State.reset.acq with idleDue := if m.active then some (ms 50) else none }
    mode :=
      { mode := m
        laneMask := ⟨true, true, false, false⟩
        assignments := ⟨some 3, some 3, none, none⟩
        configState := .valid
        wake := if m = .waking then some { due := ms 30, origin := .reset } else none }
    store :=
      { State.reset.store with
        config := Block.written plantConfig
        recipes := State.reset.store.recipes.set 3 (Block.written cardRecipe) } }

/-- A PRODUCT record of recipe 3 as it is created. -/
def pocket (serial : Serial) : Product := Product.fresh serial 3

/-- The state that a command answers. -/
def after (c : Instr) (s : State) : State :=
  match exec c s with
  | .next t => t
  | .fault f => nomatch f
  | .refused _ => s

/-- The status and data of the response being sent on a port. -/
def reply (s : State) (port : Port) : Option (Status × List Byte) :=
  (s.ports.get port).sending.map fun r => (r.status, r.data)

/-! ## One step each, by the manual's sequences -/

/-- R140, R157, R159: power-on of a part as delivered leaves the state right after reset. -/
theorem test_powerOn_is_reset : exec (.powerOn 0) State.reset = .next State.reset := rfl

/-- 1.10: an edge 45 ms after the last taken edge is ignored, with GLITCH on every port. -/
theorem test_index_glitch : (after (.indexEdge (ms 45) (Quad.fill false)) (line .run [])).web = (line .run []).web ∧
    ((after (.indexEdge (ms 45) (Quad.fill false)) (line .run [])).events.get 2).flags = 0x080 := by decide +kernel

/-- 1.11: N 4, mask {0, 2, 3}, counter 16,777,214: serials 16,777,214, none, 16,777,215 and 1, the counter 2. -/
theorem test_serial_wrap :
    let m : ModeController := { (line .run []).mode with
      laneMask := ⟨true, false, true, true⟩, assignments := Quad.fill (some 3) }
    let w := WebTrack.shift { (line .run []).web with lanes := 4, nextSerial := 16777214 } m
    w.nextSerial = 2 ∧ w.rows.map (·.head?) =
      ⟨some (.product (pocket 16777214)), some .void, some (.product (pocket 16777215)),
        some (.product (pocket 1))⟩ := by decide +kernel

/-- 2.7: a count of four is PASS, a count of three FAIL, for recipe 3. -/
theorem test_post_load :
    reply (after (.postVerdict 1 1 2 0 40 4 0) (line .run [(0, 6, pocket 40)])) 1 = some (.ok, [6, 1, 4]) ∧
    reply (after (.postVerdict 1 1 2 1 41 3 0) (line .run [(1, 6, pocket 41)])) 1 = some (.ok, [6, 2, 3]) := by
  decide +kernel

/-- 2.7: port 0 may not post INSPECT; port 2 is EARLY at slot 15 and TOO_LATE at slot 20 with a LATE field. -/
theorem test_post_inspect :
    reply (after (.postVerdict 1 0 5 0 40 1 0) (line .run [(0, 16, pocket 40)])) 0 = some (.denied, []) ∧
    reply (after (.postVerdict 1 2 5 0 40 1 0) (line .run [(0, 15, pocket 40)])) 2 = some (.early, [15, 0, 0]) ∧
    reply (after (.postVerdict 1 2 5 0 40 1 0)
      (line .run [(0, 20, { pocket 40 with inspect := .late })])) 2 = some (.tooLate, [20, 3, 0]) := by
  decide +kernel

/-- 2.7: the index to slot 20 makes a NONE Inspect field LATE, with LATE on port 2. -/
theorem test_window_closes :
    let s := after (.indexEdge (ms 400) (Quad.fill true)) (line .run [(0, 19, pocket 40)])
    (s.web.rows.get 0)[20]? = some (.product { pocket 40 with inspect := .late }) ∧
      ((s.events.get 2).flags).getLsbD 1 = true := by decide +kernel

/-- 2.7: Set Hold at slot 22 is OK with Hold code 4 from port 3, at slot 23 TOO_LATE. -/
theorem test_set_hold :
    reply (after (.setHold 1 3 0 40) (line .run [(0, 22, pocket 40)])) 3 = some (.ok, [22, 4]) ∧
    reply (after (.setHold 1 3 0 40) (line .run [(0, 23, pocket 40)])) 3 = some (.tooLate, [23, 0]) := by
  decide +kernel

/-- 5.6: record 40 is rejected for its Hold alone, record 41 for LOAD, CARD and INSPECT. -/
theorem test_gate_causes :
    let p40 : Product := { pocket 40 with
      form := .late, load := .pass 4, card := .present, heatSeal := .judged .pass 53500, inspect := .pass,
      hold := some 3 }
    let p41 : Product := { pocket 41 with
      form := .late, load := .fail 3, card := .missing, heatSeal := .judged .pass 48200, inspect := .fail 17 }
    causesOf factoryStations (line .run []).store (.product p40) = [.held] ∧
      causesOf factoryStations (line .run []).store (.product p41) = [.load, .card, .inspect] := by decide +kernel

/-- 5.7: the reader of a wrapped log sends 4,294,967,294 with next sequence number 2 and gets four entries. -/
theorem test_log_wrap :
    let e (n : BitVec 32) := logEntryOf n 0 0 .void [.void]
    ({ State.reset.gate with
        log := [e 0xFFFFFFFE, e 0xFFFFFFFF, e 0, e 1]
        nextSeq := 2 } : Gate).readLog 0xFFFFFFFE 8 = (false, [e 0xFFFFFFFE, e 0xFFFFFFFF, e 0, e 1]) := by
  decide +kernel

/-- A lane of a stroke under recipe 3 with the sums given. -/
def strokeLane (serial : Serial) (faulted : Bool) (dwell dose peak : Nat) : StrokeLane :=
  { serial := some serial
    used := some (3, (recipeOfWire cardRecipe).limits)
    faulted := faulted
    dwell := dwell
    dose := dose
    peak := some peak }

/-- Stroke 57 of 4.9 at its end, after 360 rounds. -/
def stroke57 : Stroke where
  number := 57
  laneCount := 4
  lanes := ⟨strokeLane 201 false 350 53500 1610, strokeLane 202 false 350 24500 1520,
    strokeLane 203 false 350 140000 2000, strokeLane 204 true 349 52350 1600⟩
  refOk := true
  long := false
  rounds := 360

/-- 4.9: PASS, UNDER, OVER, SENSOR. -/
theorem test_stroke57_verdicts :
    stroke57.lanes.map stroke57.completeVerdict =
      ⟨.judged .pass, .judged .under, .judged .over, .judged .sensor⟩ := by decide +kernel

/-- 4.9: a contact round at 2000 adds E_cap; a round at 102 of PRESS is no contact and counts for the peak only. -/
theorem test_round_sums :
    (strokeLane 203 false 1 400 2000).addRound (some 25) (some 2050) = strokeLane 203 false 2 800 2050 ∧
    (strokeLane 203 false 1 400 2000).addRound (some 24) (some 2050) = strokeLane 203 false 1 400 2050 ∧
    (strokeLane 203 false 1 400 2000).addRound none (some 2050) = strokeLane 203 true 1 400 2000 := by decide +kernel

/-- 4.10: a second verdict makes the field DOUBLE with the first dose. -/
theorem test_double : (SealMark.judged .short 37500).struck (.judged .over 78000) = .double 37500 ∧
    SealMark.aborted.struck (.judged .pass 1) = .double 0 := by decide +kernel

/-- 9.5: an enabled flag is reported and cleared, one that is not enabled stays. -/
theorem test_read_events :
    let s : State := { line .setup [] with
      events := Quad.fill { flags := 0x190, enable := 0x37C, storeResult := some .ok } }
    reply (after (.readEvents 1 3) s) 3 = some (.ok, [0x10, 0x01, 1]) ∧
      ((after (.readEvents 1 3) s).events.get 3).flags = 0x080 := by decide +kernel

/-- 6.11: Start is BUSY in WAKING, and NOT_READY with both lanes UNKNOWN. -/
theorem test_start :
    reply (after (.start 1 3) (line .waking [])) 3 = some (.busy, []) ∧
    reply (after (.start 1 3) (line .setup [])) 3 = some (.notReady, []) := by decide +kernel

/-- 6.12: waking on a damaged configuration: SETUP, INVALID, TRACK_LOST and RESET_DONE. -/
theorem test_wake_damaged :
    let s := after (.selfCheckExpiry (ms 30) 2050) State.reset
    s.mode.mode = .setup ∧ s.mode.configState = .invalid ∧ (s.events.get 1).flags = 0x240 := by decide +kernel

/-- 7.8: a write to slot 3, in use, is IN_USE; one to slot 7 is accepted, with its deadline 20 ms later. -/
theorem test_write_recipe :
    reply (after (.writeRecipe 1 3 3 cardRecipe) (line .run [])) 3 = some (.inUse, []) ∧
    (after (.writeRecipe 2000 3 7 cardRecipe) (line .run [])).store.engine =
      some { target := .recipe 7 cardRecipe, port := 3, accepted := 2000, due := 22000 } := by decide +kernel

/-! ## Witnesses: states and operands that meet the hypotheses of the statements -/

/-- The PRODUCT records of the track, with their places. -/
def productsIn (s : State) : List (Lane × Nat × Product) :=
  lanes4.flatMap fun n =>
    (s.web.rows.get n).zipIdx.filterMap fun x => x.1.product?.map fun p => (n, x.2, p)

theorem mem_productsIn {s : State} {lane : Lane} {slot : Nat} {p : Product}
    (h : s.recordAt lane slot = some (.product p)) : (lane, slot, p) ∈ productsIn s := by
  rw [productsIn, List.mem_flatMap]
  refine ⟨lane, mem_lanes4 lane, ?_⟩
  rw [List.mem_filterMap]
  exact ⟨(.product p, slot), by rw [List.mk_mem_zipIdx_iff_getElem?]; exact h, rfl⟩

theorem noProduct_of {s : State} (h : productsIn s = []) : s.noProduct := by
  intro lane slot p hp
  have := mem_productsIn hp
  simp [h] at this

theorem not_slotNamed_of {s : State} {n : RecipeSlot} (hp : ∀ x ∈ productsIn s, x.2.2.recipe ≠ n)
    (ha : ∀ lane : Lane, lane.val < s.web.lanes → s.mode.assignments.get lane ≠ some n) : ¬s.slotNamed n := by
  rintro (⟨lane, slot, p, h, hr⟩ | ⟨lane, hl, h⟩)
  · exact hp _ (mem_productsIn h) hr
  · exact ha lane hl h

theorem edgeTaken_of {s : State} {now : Time} (h : s.web.takesEdge now = true) : s.edgeTaken now := by
  intro last hl
  simpa [WebTrack.takesEdge, hl] using h

/-- The serials a stroke in flight captured are distinct. -/
def strokeSerialsApart (s : State) : Prop :=
  match s.stroke.phase.stroke? with
  | none => True
  | some k => ∀ n n' : Lane, (k.lanes.get n).serial.isSome = true →
      (k.lanes.get n').serial = (k.lanes.get n).serial → n = n'

theorem serialInv_of {s : State} (h0 : s.web.nextSerial ≠ 0)
    (h1 : ∀ x ∈ productsIn s, x.2.2.serial ≠ 0 ∧ 1 ≤ serialAge s.web.nextSerial x.2.2.serial ∧
      serialAge s.web.nextSerial x.2.2.serial ≤ s.web.lanes * (x.2.1 + 1))
    (h2 : ∀ x ∈ productsIn s, ∀ y ∈ productsIn s, x.2.2.serial = y.2.2.serial → x.1 = y.1 ∧ x.2.1 = y.2.1)
    (h3 : strokeSerialsApart s) : s.serialInv := by
  refine ⟨h0, fun lane slot p h => h1 _ (mem_productsIn h),
    fun _ _ _ _ _ _ h h' e => h2 _ (mem_productsIn h) _ (mem_productsIn h') e, ?_⟩
  intro k n n' x hk hn hn'
  rw [strokeSerialsApart, hk] at h3
  exact h3 n n' (by rw [hn]; rfl) (by rw [hn, hn'])

theorem geometryInv_of {s : State} (h : s.web.shaped) (hm : s.verdict.stations = factoryStations)
    (hl : s.web.length = 24) (he : s.store.engine = none) : s.geometryInv := by
  refine ⟨h, ?_, fun w hw => by simp [he] at hw⟩
  rw [hm, hl]
  refine ⟨fun st => ?_, by decide, by decide⟩
  cases st <;> decide

/-- Two PRODUCT records stand on the track: serial 190 at the SEAL slot, serial 177 before the gate slot. -/
def busyLine (m : Mode) : State := line m [(0, 11, pocket 190), (1, 22, pocket 177)]

theorem busyLine_geometry (m : Mode) : (busyLine m).geometryInv := by
  refine geometryInv_of ?_ rfl rfl rfl
  unfold WebTrack.shaped
  cases m <;> decide +kernel

theorem busyLine_serial (m : Mode) : (busyLine m).serialInv := by
  cases m <;> exact serialInv_of (by decide +kernel) (by decide +kernel) (by decide +kernel) trivial

theorem line_geometry (m : Mode) : (line m []).geometryInv := by
  refine geometryInv_of ?_ rfl rfl rfl
  unfold WebTrack.shaped
  cases m <;> decide +kernel

theorem line_serial (m : Mode) : (line m []).serialInv := by
  cases m <;> exact serialInv_of (by decide +kernel) (by decide +kernel) (by decide +kernel) trivial

theorem line_idle (m : Mode) (l : List (Lane × Nat × Product)) (p : Port) : (line m l).portIdle p :=
  ⟨rfl, by simp [line, State.reset, StationPort.fresh], by simp [line, State.reset, StationPort.fresh]⟩

theorem line_noProduct (m : Mode) : (line m []).noProduct := by
  cases m <;> exact noProduct_of (by decide +kernel)

/-- A stroke with a target, serial 190, in lane 0, and a lane that is not evaluated. -/
def shortStroke (rounds : Nat) (long : Bool) : Stroke where
  number := 57
  laneCount := 2
  lanes := ⟨strokeLane 190 false 5 800 1610, StrokeLane.captured none none, StrokeLane.captured none none,
    StrokeLane.captured none none⟩
  refOk := true
  long := long
  rounds := rounds

/-- The busy line with a stroke in flight. -/
def strokeLine (m : Mode) (phase : StrokePhase) : State :=
  { busyLine m with
    acq := { (busyLine m).acq with idleDue := none }
    stroke := { phase := phase, number := 57, report := none } }

/-- The busy line sampling, a round due at 2 ms. -/
def samplingLine (rounds : Nat) : State := strokeLine .run (.sampling (ms 2) (shortStroke rounds false))

theorem samplingLine_inv (rounds : Nat) :
    (samplingLine rounds).geometryInv ∧ (samplingLine rounds).serialInv ∧ (samplingLine rounds).samplingInv := by
  refine ⟨busyLine_geometry .run, ?_, ?_⟩
  · obtain ⟨h0, h1, h2, -⟩ := busyLine_serial .run
    refine ⟨h0, h1, h2, ?_⟩
    intro k n n' x hk hn hn'
    cases hk
    revert hn hn'
    fin_cases n <;> fin_cases n' <;> simp [shortStroke, Quad.get, StrokeLane.captured, strokeLane]
  · refine ⟨nofun, fun _ => rfl, ?_⟩
    simp [samplingLine, strokeLine]

/-- Serial 190, the one the stroke captured, stands at the SEAL slot of lane 0, and is the tenth to last issue. -/
theorem samplingLine_capture (rounds : Nat) : (samplingLine rounds).captureInv := by
  intro k n x hk hn
  cases hk
  have h : n = 0 ∧ x = 190 := by
    revert hn
    fin_cases n <;> simp [shortStroke, Quad.get, StrokeLane.captured, strokeLane, eq_comm]
  obtain ⟨rfl, rfl⟩ := h
  refine ⟨by decide, (by decide +kernel : 1 ≤ serialAge (busyLine .run).web.nextSerial 190),
    (by decide +kernel : serialAge (busyLine .run).web.nextSerial 190 ≤ 192), fun lane slot p hp he => ?_⟩
  have hs := (busyLine_serial .run).2.2.1 lane slot p 0 11 (pocket 190) hp (by decide +kernel) he
  exact ⟨hs.1, rfl, hs.2⟩

theorem witness_StepTakesFrontCommand : State.reset.pending = [] := rfl

theorem witness_IndexEdgeIgnored :
    (line .run []).resetHeld = false ∧ (line .run []).web.lastTaken = some 0 ∧
      49999 < 0 + ms (line .run []).web.minInterval := by decide +kernel

theorem witness_IndexEdgeFrozenLosesTrack :
    ((line .standby []).resetHeld = false ∧ (line .standby []).edgeTaken (ms 50) ∧
      (line .standby []).mode.mode = .standby) ∧
    State.reset.resetHeld = false ∧ State.reset.edgeTaken 0 ∧ State.reset.mode.mode = .waking :=
  ⟨⟨rfl, edgeTaken_of (by decide +kernel), rfl⟩, rfl, edgeTaken_of rfl, rfl⟩

theorem witness_IndexShiftsTrack :
    let s := busyLine .run
    s.resetHeld = false ∧ s.edgeTaken (ms 50) ∧ s.mode.mode.active = true ∧ s.stroke.phase = .idle ∧
      s.web.shaped ∧ s.entryLanes = [0, 1] ∧
      ∀ lane ∈ s.entryLanes, (s.mode.assignments.get lane).isSome = true :=
  ⟨rfl, edgeTaken_of (by decide +kernel), rfl, rfl, (busyLine_geometry .run).1, by decide +kernel,
    by decide +kernel⟩

/-- The same index with a stroke in flight. -/
theorem witness_IndexShiftsTrack_abort :
    let s := samplingLine 10
    s.resetHeld = false ∧ s.edgeTaken (ms 50) ∧ s.mode.mode.active = true ∧ s.stroke.phase ≠ .idle ∧
      s.geometryInv ∧ s.serialInv ∧ s.captureInv ∧ s.entryLanes = [0, 1] ∧
      ∀ lane ∈ s.entryLanes, (s.mode.assignments.get lane).isSome = true :=
  ⟨rfl, edgeTaken_of (by decide +kernel), rfl, nofun, (samplingLine_inv 10).1, (samplingLine_inv 10).2.1,
    samplingLine_capture 10, by decide +kernel, by decide +kernel⟩

/-- A drain that this index completes, and one that it does not. -/
theorem witness_IndexShiftsTrack_drain :
    (after (.indexEdge (ms 50) (Quad.fill true)) (line .drain [])).noProduct ∧
    ¬(after (.indexEdge (ms 50) (Quad.fill true)) (busyLine .drain)).noProduct :=
  ⟨noProduct_of (by decide +kernel), fun h =>
    h 0 12 { pocket 190 with card := .none } (by decide +kernel)⟩

/-- A record whose INSPECT window closes at this index, one brought to the LOAD slot, and one brought to the gate. -/
theorem witness_IndexRaisesFlags :
    let s := line .run [(0, 19, pocket 170), (1, 5, pocket 191), (1, 22, pocket 160)]
    s.resetHeld = false ∧ s.edgeTaken (ms 50) ∧ s.mode.mode.active = true ∧ s.stroke.phase = .idle ∧
      s.geometryInv :=
  ⟨rfl, edgeTaken_of (by decide +kernel), rfl, rfl,
    geometryInv_of (by unfold WebTrack.shaped; decide +kernel) rfl rfl rfl⟩

/-- The same flags with a stroke to abort. -/
theorem witness_IndexRaisesFlags_abort :
    let s := samplingLine 10
    s.resetHeld = false ∧ s.edgeTaken (ms 50) ∧ s.mode.mode.active = true ∧ s.geometryInv ∧
      s.stroke.phase ≠ .idle ∧ s.verdict.stations.heatSeal.port = some 3 :=
  ⟨rfl, edgeTaken_of (by decide +kernel), rfl, (samplingLine_inv 10).1, nofun, rfl⟩

/-- The consecutive numbering of a log, checked entry by entry. -/
theorem logInv_of {g : Gate} (h : g.log.length ≤ 64)
    (hs : ∀ x ∈ g.log.zipIdx, x.1.seq = g.nextSeq - BitVec.ofNat 32 g.log.length + BitVec.ofNat 32 x.2)
    (hc : ∀ e ∈ g.log, (e.disposition = .accepted ↔ e.causes = []) ∧ e.causes.length ≤ 7) : g.logInv := by
  refine ⟨h, fun k e he => ?_, hc⟩
  exact hs (e, k) (by rw [List.mk_mem_zipIdx_iff_getElem?]; exact he)

/-- A full log of 64 entries, the next sequence number 30. -/
def fullLog : Gate :=
  { State.reset.gate with
    log := (List.range 64).map fun n => logEntryOf (30 - 64 + BitVec.ofNat 32 n) 0 0 .void [.void]
    nextSeq := 30 }

theorem fullLog_inv : fullLog.logInv :=
  logInv_of (by decide +kernel) (by decide +kernel) (by decide +kernel)

theorem witness_IndexDecidesAtGate :
    let s : State := { busyLine .run with gate := fullLog }
    s.resetHeld = false ∧ s.edgeTaken (ms 50) ∧ s.mode.mode.active = true ∧ s.stroke.phase = .idle ∧
      s.geometryInv ∧ s.gate.logInv :=
  ⟨rfl, edgeTaken_of (by decide +kernel), rfl, rfl, busyLine_geometry .run, fullLog_inv⟩

/-- The same decisions with a stroke to abort. -/
theorem witness_IndexDecidesAtGate_abort :
    let s : State := { samplingLine 10 with gate := fullLog }
    s.resetHeld = false ∧ s.edgeTaken (ms 50) ∧ s.mode.mode.active = true ∧ s.stroke.phase ≠ .idle ∧
      s.geometryInv ∧ s.gate.logInv ∧ s.serialInv ∧ s.captureInv :=
  ⟨rfl, edgeTaken_of (by decide +kernel), rfl, nofun, (samplingLine_inv 10).1, fullLog_inv,
    (samplingLine_inv 10).2.1, samplingLine_capture 10⟩

/-- Serial 190 is a target of the stroke, serial 177, at the last slot but one, is not. -/
theorem witness_IndexAbortsStroke :
    let s := samplingLine 10
    let k := shortStroke 10 false
    s.resetHeld = false ∧ s.edgeTaken (ms 50) ∧ s.mode.mode.active = true ∧ s.geometryInv ∧ s.serialInv ∧
      s.stroke.phase.stroke? = some k ∧ s.recordAt 0 11 = some (.product (pocket 190)) ∧
      (k.lanes.get 0).targets 190 ∧ s.recordAt 1 22 = some (.product (pocket 177)) ∧ 22 + 1 < s.web.length ∧
      ¬∃ n : Lane, n.val < k.laneCount ∧ (k.lanes.get n).targets 177 :=
  ⟨rfl, edgeTaken_of (by decide +kernel), rfl, (samplingLine_inv 10).1, (samplingLine_inv 10).2.1, rfl,
    by decide +kernel, ⟨rfl, rfl⟩, by decide +kernel, by decide +kernel, by
      simp only [StrokeLane.targets]
      decide +kernel⟩

theorem witness_StepKeepsSerialInv :
    let s : State := { samplingLine 10 with pending := [.indexEdge (ms 50) (Quad.fill true)] }
    s.geometryInv ∧ s.serialInv ∧ s.captureInv ∧ ∃ t, step s = .next t :=
  ⟨(samplingLine_inv 10).1, (samplingLine_inv 10).2.1, samplingLine_capture 10, _, rfl⟩

theorem witness_StepKeepsGeometryInv :
    let s : State := { busyLine .run with pending := [.indexEdge (ms 50) (Quad.fill true)] }
    s.geometryInv ∧ ∃ t, step s = .next t :=
  ⟨busyLine_geometry .run, _, rfl⟩

/-- A log entry of all seven causes. -/
theorem witness_WireLayouts :
    (logEntryOf 0 0 0 (.product (pocket 1)) [.held, .form, .load, .card, .heatSeal, .inspect, .aux]).causes.length ≤
      7 := by decide +kernel

/-- Read Record and Read Plane at the last slot, lane and selector, and one past each; Find Serial by its four clauses. -/
theorem witness_TrackReads :
    (busyLine .run).portIdle 2 ∧ (busyLine .run).geometryInv ∧ (busyLine .run).serialInv ∧
      (busyLine .run).mode.mode ≠ .waking ∧ (busyLine .waking).mode.mode = .waking ∧
      (busyLine .run).recordAt 1 23 = some .untracked ∧ (busyLine .run).recordAt 1 24 = none ∧
      (busyLine .run).recordAt 1 22 = some (.product (pocket 177)) ∧ (pocket 177).serial = 177 ∧
      ∀ lane slot p, (busyLine .run).recordAt lane slot = some (.product p) → p.serial ≠ 200 :=
  ⟨line_idle _ _ _, busyLine_geometry _, busyLine_serial _, by decide +kernel, rfl, by decide +kernel,
    by decide +kernel, by decide +kernel, rfl, fun _ _ p h =>
      (by decide +kernel : ∀ x ∈ productsIn (busyLine .run), x.2.2.serial ≠ 200) _ (mem_productsIn h)⟩

/-- Lane N, and a Load count of 16, are no targets; port 0 may not post INSPECT and port 2 may; no record is 200. -/
theorem witness_PostVerdictRefusedBeforeRecord :
    let s := busyLine .run
    s.portIdle 2 ∧ s.portIdle 0 ∧ s.web.shaped ∧ s.mode.mode ≠ .waking ∧ (busyLine .waking).mode.mode = .waking ∧
      (¬∃ st : PortStation, (5 : Byte) = st.code ∧ (s.verdict.stations.entry st).enabled = true ∧
        (2 : Byte).toNat < s.web.lanes ∧ (190 : Serial) ≠ 0 ∧ st.takes 1 0) ∧
      ¬PortStation.load.takes 16 0 ∧ PortStation.load.takes 15 0 ∧
      (s.verdict.stations.entry .inspect).enabled = true ∧ PortStation.inspect.takes 2 1 ∧
      ((s.verdict.masks.get 0).get 1).permits .inspect = false ∧
      ((s.verdict.masks.get 2).get 1).permits .inspect = true ∧
      ∀ slot p, s.recordAt 1 slot = some (.product p) → p.serial ≠ 200 :=
  ⟨line_idle _ _ _, line_idle _ _ _, (busyLine_geometry _).1, by decide +kernel, rfl,
    by rintro ⟨_, _, _, h, _⟩; revert h; decide +kernel,
    by rintro ⟨h, _⟩; revert h; decide, ⟨by decide, rfl⟩, rfl, Or.inr ⟨rfl, by decide⟩, by decide +kernel,
    by decide +kernel, fun _ p h =>
      (by decide +kernel : ∀ x ∈ productsIn (busyLine .run), x.2.2.serial ≠ 200) _ (mem_productsIn h)⟩

/-- INSPECT stands at slot 16 with window 4: a record before it, at its first and last open slot, and past it. -/
theorem witness_PostVerdictAtRecord (slot : Nat) (h : slot ∈ [15, 16, 19, 20]) :
    let s := line .run [(0, slot, pocket 190)]
    s.portIdle 2 ∧ s.geometryInv ∧ s.serialInv ∧ s.mode.mode ≠ .waking ∧
      (s.verdict.stations.entry .inspect).enabled = true ∧ PortStation.inspect.takes 1 0 ∧
      ((s.verdict.masks.get 2).get 0).permits .inspect = true ∧
      s.recordAt 0 slot = some (.product (pocket 190)) := by
  refine ⟨line_idle _ _ _, geometryInv_of ?_ rfl rfl rfl, ?_, by simp [line], rfl, Or.inl ⟨rfl, rfl⟩,
    rfl, ?_⟩
  · unfold WebTrack.shaped
    revert slot
    decide +kernel
  · refine serialInv_of (by simp [line]) ?_ ?_ trivial <;> revert slot <;> decide +kernel
  · revert slot
    simp only [State.recordAt]
    decide +kernel

/-- Port 3 may hold and port 1 may not; a record at the gate slot and one before it, held and not. -/
theorem witness_HoldRequests :
    let s := line .run [(0, 23, pocket 190), (1, 22, { pocket 177 with hold := some 0 })]
    s.portIdle 3 ∧ s.portIdle 1 ∧ s.geometryInv ∧ s.serialInv ∧ s.mode.mode ≠ .waking ∧
      ((s.verdict.masks.get 1).get 0).hold = false ∧ ((s.verdict.masks.get 3).get 0).hold = true ∧
      ((s.verdict.masks.get 3).get 1).hold = true ∧
      s.recordAt 0 23 = some (.product (pocket 190)) ∧
      s.recordAt 1 22 = some (.product { pocket 177 with hold := some 0 }) ∧
      ∀ slot p, s.recordAt 0 slot = some (.product p) → p.serial ≠ 200 :=
  ⟨line_idle _ _ _, line_idle _ _ _, geometryInv_of (by unfold WebTrack.shaped; decide +kernel) rfl rfl rfl,
    serialInv_of (by decide +kernel) (by decide +kernel) (by decide +kernel) trivial, by decide +kernel,
    by decide +kernel, by decide +kernel, by decide +kernel, by decide +kernel, by decide +kernel, fun _ p h =>
      (by decide +kernel :
        ∀ x ∈ productsIn (line .run [(0, 23, pocket 190), (1, 22, { pocket 177 with hold := some 0 })]),
          x.2.2.serial ≠ 200) _ (mem_productsIn h)⟩

theorem witness_PortMaskRequests : (line .setup []).portIdle 1 ∧ (line .setup []).web.shaped ∧
    (line .setup []).mode.mode = .setup ∧ (line .run []).portIdle 1 ∧ (line .waking []).mode.mode = .waking :=
  ⟨line_idle _ _ _, (line_geometry _).1, rfl, line_idle _ _ _, rfl⟩

theorem witness_ConverterCodes :
    factoryDefault.calibration.pspan ≤ 4000 ∧ (4087 : RawCode).toNat = 4087 ∧ (4086 : RawCode).toNat < 4087 ∧
      convertPress { factoryDefault.calibration with pspan := 4000 } 4086 = some 3990 := by decide +kernel

/-- Lane 0 has seven good samples and its fault mark set; the pass falls due at 50 ms. -/
def soakLine : State :=
  { line .setup [] with
    acq :=
      { (line .setup []).acq with
        lanes := State.reset.acq.lanes.set 0
          { buffer := List.replicate 7 1570, faulted := true, ready := .fault, lastRaw := none } } }

theorem soakLine_samples : soakLine.samplesInv := by
  refine ⟨?_, trivial⟩
  unfold LaneSamples.inv
  decide +kernel

theorem witness_IdlePassSamples :
    soakLine.resetHeld = false ∧ soakLine.samplesInv ∧ soakLine.acq.idleDue = some (ms 50) ∧ ms 50 ≤ ms 50 :=
  ⟨rfl, soakLine_samples, rfl, Nat.le_refl _⟩

theorem witness_StepKeepsSamplesInv :
    let s : State := { soakLine with pending := [.idlePass (ms 50) (Quad.fill 1844)] }
    s.samplesInv ∧ ∃ t, step s = .next t :=
  ⟨soakLine_samples, _, rfl⟩

theorem witness_StepKeepsSamplingInv :
    let s : State := { samplingLine 10 with pending := [.sealFallingEdge (ms 9)] }
    s.samplingInv ∧ ∃ t, step s = .next t :=
  ⟨(samplingLine_inv 10).2.2, _, rfl⟩

theorem witness_MeasurementReads : (samplingLine 10).portIdle 3 ∧ (line .waking []).portIdle 3 :=
  ⟨⟨rfl, rfl, rfl⟩, line_idle _ _ _⟩

theorem witness_StrokeStart (m : Mode) : (busyLine m).resetHeld = false ∧ (busyLine m).stroke.phase = .idle :=
  ⟨rfl, rfl⟩

/-- Round 2047 of an evaluated lane and of one that is not: the last before the cap and the cap itself; PRESS codes on
both sides of its fault threshold and of the contact force. -/
theorem witness_RoundAddsToStroke (rounds : Nat) (_ : rounds ∈ [2046, 2047]) :
    let s := samplingLine rounds
    let k := shortStroke rounds false
    s.resetHeld = false ∧ s.stroke.phase = .sampling (ms 2) k ∧ ms 2 ≤ ms 2 ∧ (k.lanes.get 1).used = none ∧
      (k.lanes.get 0).used = some (3, (recipeOfWire cardRecipe).limits) ∧
      convertPress s.acq.calibration 4087 = none ∧ convertPress s.acq.calibration 103 = some 25 ∧
      convertPress s.acq.calibration 102 = some 24 ∧ (0 : Lane).val < s.web.lanes ∧
      convertTemp (s.acq.calibration.lanes.get 0) 1844 = some 1600 ∧
      convertTemp (s.acq.calibration.lanes.get 0) 8 = none :=
  ⟨rfl, rfl, Nat.le_refl _, rfl, rfl,
    (by decide +kernel : convertPress factoryDefault.calibration 4087 = none),
    (by decide +kernel : convertPress factoryDefault.calibration 103 = some 25),
    (by decide +kernel : convertPress factoryDefault.calibration 102 = some 24), Nat.zero_lt_two,
    (by decide +kernel : convertTemp plantCal 1844 = some 1600),
    (by decide +kernel : convertTemp plantCal 8 = none)⟩

theorem witness_RoundCapEndsSampling :
    (samplingLine 2048).resetHeld = false ∧
      (samplingLine 2048).stroke.phase = .sampling (ms 2) (shortStroke 2048 false) ∧
      2048 ≤ (shortStroke 2048 false).rounds ∧
      (samplingLine 2047).stroke.phase = .sampling (ms 2) (shortStroke 2047 false) ∧
      (shortStroke 2047 false).rounds < 2048 ∧
      (strokeLine .run (.capped (shortStroke 2048 true))).stroke.phase = .capped (shortStroke 2048 true) :=
  ⟨rfl, rfl, by decide, rfl, by decide, rfl⟩

theorem witness_FallingEdgeEndsStroke :
    ((samplingLine 10).resetHeld = false ∧ (samplingLine 10).geometryInv ∧ (samplingLine 10).serialInv ∧
      (samplingLine 10).samplingInv ∧ (samplingLine 10).stroke.phase.stroke? = some (shortStroke 10 false)) ∧
    (busyLine .run).geometryInv ∧ (busyLine .run).serialInv ∧ (busyLine .run).samplingInv ∧
      (busyLine .run).stroke.phase = .idle :=
  ⟨⟨rfl, (samplingLine_inv 10).1, (samplingLine_inv 10).2.1, (samplingLine_inv 10).2.2, rfl⟩,
    busyLine_geometry _, busyLine_serial _, ⟨nofun, fun h => absurd rfl h, by decide +kernel⟩, rfl⟩

theorem witness_SealVerdictOrder :
    ((shortStroke 10 false).lanes.get 1).used = none ∧
      ((shortStroke 10 false).lanes.get 0).used = some (3, (recipeOfWire cardRecipe).limits) := ⟨rfl, rfl⟩

theorem witness_GateDecisionRule :
    (stationSetOf 0x1E) = (((line .run []).store.recipe (pocket 1).recipe).map (·.required)).getD
      ⟨true, true, true, true, true, true⟩ := by decide +kernel

theorem witness_PulseExpiryReleasesLane :
    let s : State := { line .run [] with
      gate := { (line .run []).gate with pulses := ⟨some (ms 40), none, none, none⟩ } }
    s.resetHeld = false ∧ s.gate.pulses.get 0 = some (ms 40) ∧ ms 40 ≤ ms 40 ∧ 39999 < ms 40 := by decide +kernel

/-- An INDEX edge, and a command that is none of the four that change the log. -/
theorem witness_StepKeepsLogInv :
    let s : State := { busyLine .run with
      gate := fullLog, pending := [.indexEdge (ms 50) (Quad.fill true)] }
    let u : State := { s with pending := [.rejectPulseExpiry (ms 50) 0] }
    s.gate.logInv ∧ (∃ t, step s = .next t) ∧ (∃ t, step u = .next t) ∧
      (∀ now cards, u.pending.head? ≠ some (.indexEdge now cards)) ∧
      (∀ now, u.pending.head? ≠ some (.powerOn now)) ∧ (∀ now, u.pending.head? ≠ some (.resetLineAssert now)) ∧
      ∀ now, u.pending.head? ≠ some (.resetLineRelease now) :=
  ⟨fullLog_inv, ⟨_, rfl⟩, ⟨_, rfl⟩, nofun, nofun, nofun, nofun⟩

/-- Counts 1 and 8, 0 and 9; and `first` at each end of the four cases of d: 0, 1 and 64, 65 and 2,147,483,647, and
2,147,483,648 and 4,294,967,295. -/
theorem witness_ReadDischargeLogReply :
    let s : State := { line .run [] with gate := fullLog }
    s.portIdle 3 ∧ s.gate.logInv ∧ s.mode.mode ≠ .waking ∧ (line .waking []).mode.mode = .waking ∧
      s.gate.log.length = 64 ∧
      ([30, 29, 30 - 64, 30 - 65, 30 - 2147483647, 30 - 2147483648, 31] : List (BitVec 32)).map
        (fun first => (s.gate.nextSeq - first).toNat) =
        [0, 1, 64, 65, 2147483647, 2147483648, 4294967295] :=
  ⟨⟨rfl, rfl, rfl⟩, fullLog_inv, by simp [line], rfl, by decide +kernel, by decide +kernel⟩

theorem witness_StandbyRequests :
    ((samplingLine 10).portIdle 3 ∧ (samplingLine 10).geometryInv ∧ (samplingLine 10).serialInv ∧
      (samplingLine 10).mode.mode = .run ∧ (samplingLine 10).store.engine = none ∧
      (samplingLine 10).stroke.phase.stroke? = some (shortStroke 10 false)) ∧
    ((busyLine .setup).portIdle 3 ∧ (busyLine .setup).geometryInv ∧ (busyLine .setup).serialInv ∧
      (busyLine .setup).mode.mode = .setup ∧ (busyLine .setup).stroke.phase = .idle) ∧
    (line .standby []).portIdle 3 ∧ (line .standby []).mode.mode = .standby ∧
      (line .standby []).store.engine = none :=
  ⟨⟨⟨rfl, rfl, rfl⟩, (samplingLine_inv 10).1, (samplingLine_inv 10).2.1, rfl, rfl, rfl⟩,
    ⟨line_idle _ _ _, busyLine_geometry _, busyLine_serial _, rfl, rfl⟩, line_idle _ _ _, rfl, rfl⟩

/-- The line in SETUP with the lane mask, the assignments and the ready states given. -/
def setupLine (m : Mode) (mask : Quad Bool) (recipe : Option RecipeSlot) (r0 r1 : ReadyState) : State :=
  { line m [] with
    acq := { (line m []).acq with lanes := ⟨LaneSamples.fresh r0, LaneSamples.fresh r1,
      LaneSamples.fresh .noRecipe, LaneSamples.fresh .noRecipe⟩ }
    mode := { (line m []).mode with laneMask := mask, assignments := ⟨some 3, recipe, none, none⟩ } }

/-- The line with a write in flight. -/
def writingLine (m : Mode) (target : WriteTarget) : State :=
  { line m [] with
    store := { (line m []).store with
      engine := some { target := target, port := 3, accepted := 0, due := ms 20 } } }

/-- Both lanes masked and READY: every check of R130 passes; and each check failing alone, in its order. -/
theorem witness_StartAndStop :
    let both : Quad Bool := ⟨true, true, false, false⟩
    let ok := setupLine .setup both (some 3) .ready .ready
    let masked (s : State) (lane : Lane) : Prop := lane.val < s.web.lanes ∧ s.mode.laneMask.get lane = true
    (ok.portIdle 3 ∧ ok.mode.mode = .setup ∧ ok.store.writingConfiguration = false ∧ ok.mode.configState = .valid ∧
      masked ok 0 ∧ (∀ lane, masked ok lane → ok.assignedValid lane) ∧
      ∀ lane, masked ok lane → (ok.acq.lanes.get lane).ready = .ready) ∧
    (writingLine .setup (.configuration plantConfig)).store.writingConfiguration = true ∧
    (∀ lane, ¬masked (setupLine .setup (Quad.fill false) (some 3) .ready .ready) lane) ∧
    (masked (setupLine .setup both (some 7) .ready .ready) 1 ∧
      ¬(setupLine .setup both (some 7) .ready .ready).assignedValid 1) ∧
    (masked (setupLine .setup both (some 3) .ready .cold) 1 ∧
      ((setupLine .setup both (some 3) .ready .cold).acq.lanes.get 1).ready ≠ .ready) ∧
    (line .run []).noProduct ∧ (line .run []).portIdle 3 ∧ ¬(busyLine .run).noProduct ∧
    (line .drain []).mode.mode = .drain := by
  refine ⟨⟨⟨rfl, rfl, rfl⟩, rfl, rfl, rfl, by decide +kernel, ?_, by decide +kernel⟩, rfl, by decide +kernel,
    ⟨by decide +kernel, ?_⟩, by decide +kernel, line_noProduct _, line_idle _ _ _,
    fun h => h 0 11 (pocket 190) (by decide +kernel), rfl⟩ <;>
  · simp only [State.assignedValid]
    decide +kernel

theorem witness_WebBreakLosesTrack (m : Mode) : (busyLine m).portIdle 3 ∧ (busyLine m).mode.mode = m :=
  ⟨line_idle _ _ _, rfl⟩

theorem witness_ModeRequestsWithoutEffect (m : Mode) :
    ((line m []).portIdle 3 ∧ (line m []).mode.mode = m) ∧
      (writingLine m (.recipe 7 cardRecipe)).portIdle 3 ∧
      (writingLine m (.recipe 7 cardRecipe)).mode.mode = m ∧
      (writingLine m (.recipe 7 cardRecipe)).store.engine ≠ none :=
  ⟨⟨line_idle _ _ _, rfl⟩, ⟨rfl, rfl, rfl⟩, rfl, nofun⟩

/-- The set 4 names lane 2, the first not below N; in RUN the empty set, an added lane with no VALID recipe, an added
lane that is not READY, and one that passes. -/
theorem witness_SetLaneMaskOutcome :
    let one : Quad Bool := ⟨true, false, false, false⟩
    let s (recipe : Option RecipeSlot) (r1 : ReadyState) := setupLine .run one recipe .ready r1
    (s none .ready).portIdle 3 ∧ (s none .ready).web.shaped ∧ (s none .ready).mode.mode = .run ∧
      (4 : Byte).getLsbD 2 = true ∧ (s none .ready).web.lanes ≤ 2 ∧
      (∀ n, (3 : Byte).getLsbD n = true → n < (s none .ready).web.lanes) ∧
      ((3 : Byte).getLsbD 1 = true ∧ (s none .ready).mode.laneMask.get 1 = false ∧ ¬(s none .ready).assignedValid 1) ∧
      ((s (some 3) .cold).assignedValid 1 ∧ ((s (some 3) .cold).acq.lanes.get 1).ready ≠ .ready) ∧
      (s (some 3) .ready).assignedValid 1 ∧ ((s (some 3) .ready).acq.lanes.get 1).ready = .ready := by
  refine ⟨⟨rfl, rfl, rfl⟩, (line_geometry .run).1, rfl, rfl, by decide +kernel, ?_, ⟨rfl, rfl, ?_⟩,
    ⟨?_, by decide +kernel⟩, ?_, rfl⟩
  · intro n h
    have h8 : n < 8 := BitVec.lt_of_getLsbD h
    interval_cases n <;> revert h <;> decide +kernel
  all_goals
    simp only [State.assignedValid]
    decide +kernel

/-- Lane 2, presence 2 and slot 16 are refused; lane 1 to slot 3, to slot 7 while that is written, to slot 15 with no
VALID block, and to none, masked in RUN and in SETUP. -/
theorem witness_SetLaneRecipeOutcome :
    (line .run []).portIdle 3 ∧ (line .run []).web.shaped ∧ (line .run []).mode.mode.active = true ∧
      (line .run []).web.lanes ≤ (2 : Byte).toNat ∧ (1 : Byte).toNat = (1 : Lane).val ∧
      (1 : Lane).val < (line .run []).web.lanes ∧
      (line .run []).mode.mode.producing = true ∧ (line .run []).mode.laneMask.get 1 = true ∧
      (line .setup []).mode.mode.producing = false ∧
      (some (3 : RecipeSlot)).map (·.val) = some (3 : Byte).toNat ∧
      (line .run []).store.writingRecipe 3 = false ∧ ((line .run []).store.recipes.get 3).state = .valid ∧
      (writingLine .run (.recipe 7 cardRecipe)).store.writingRecipe 7 = true ∧
      (some (15 : RecipeSlot)).map (·.val) = some (15 : Byte).toNat ∧
      ((line .run []).store.recipes.get 15).state ≠ .valid := by
  refine ⟨line_idle _ _ _, (line_geometry .run).1, ?_⟩
  decide +kernel

theorem witness_StepKeepsModeLaw :
    let s : State := { busyLine .run with pending := [.indexEdge (ms 50) (Quad.fill true)] }
    s.modeLaw ∧ ∃ t, step s = .next t := by
  refine ⟨?_, _, rfl⟩
  unfold State.modeLaw
  decide +kernel

theorem witness_ReadLineStatusReply : (busyLine .waking).portIdle 0 := line_idle _ _ _

theorem witness_SelfCheckFindsValid :
    let s := line .waking []
    s.resetHeld = false ∧ s.mode.wake = some { due := ms 30, origin := .reset } ∧ ms 30 ≤ ms 30 ∧
      s.store.config.verifiesTo configFault .valid :=
  ⟨rfl, rfl, Nat.le_refl _, rfl, rfl, plantConfig, rfl, by decide +kernel⟩

theorem witness_SelfCheckTurnsToFactory :
    State.reset.resetHeld = false ∧ State.reset.mode.wake = some { due := ms 30, origin := .reset } ∧
      ¬State.reset.store.config.verifiesTo configFault .valid :=
  ⟨rfl, rfl, by rintro ⟨_, h, _⟩; cases h⟩

/-- A configuration that passes, contents in a VALID recipe block and in one that is not, a lane with an assignment and one without. -/
theorem witness_ContentsChecks :
    configFault plantConfig = none ∧ recipeFault cardRecipe = none ∧
      ((line .run []).store.recipes.get 3).contents = some cardRecipe ∧
      ((line .run []).store.recipes.get 3).state = .valid ∧
      (let b : Block RecipeWire := { (line .run []).store.recipes.get 3 with state := .invalid }
       b.contents = some cardRecipe ∧ b.state ≠ .valid) ∧
      (line .run []).mode.assignments.get 1 = some 3 ∧ (line .run []).mode.assignments.get 2 = none := by
  decide +kernel

/-- BUSY; slot 16; a first failing field; slot 3, named; and slot 15, which is accepted. -/
theorem witness_WriteRecipeOutcome :
    let s := busyLine .run
    s.portIdle 3 ∧ s.mode.mode ≠ .waking ∧ s.store.engine = none ∧
      (writingLine .run (.recipe 7 cardRecipe)).store.engine ≠ none ∧ 16 ≤ (16 : Byte).toNat ∧
      (15 : Byte).toNat = (15 : RecipeSlot).val ∧ recipeFault { cardRecipe with tMax := 1499 } = some 5 ∧
      recipeFault { cardRecipe with tMax := 1500 } = none ∧ s.slotNamed 3 ∧ ¬s.slotNamed 15 :=
  ⟨line_idle _ _ _, by decide +kernel, rfl, nofun, by decide, rfl, by decide +kernel, by decide +kernel,
    Or.inl ⟨0, 11, pocket 190, by decide +kernel, rfl⟩, not_slotNamed_of (by decide +kernel) (by decide +kernel)⟩

theorem witness_WriteConfigurationOutcome :
    (line .setup []).portIdle 3 ∧ (line .setup []).mode.mode = .setup ∧ (line .setup []).noProduct ∧
      (line .setup []).store.engine = none ∧ ¬(busyLine .setup).noProduct ∧
      ((writingLine .setup (.recipe 7 cardRecipe)).noProduct ∧
        (writingLine .setup (.recipe 7 cardRecipe)).store.engine ≠ none) ∧
      (line .run []).mode.mode ≠ .setup ∧ configFault plantConfig = none ∧
      configFault { plantConfig with deadline := 4 } = some 18 ∧ configFault { plantConfig with lanes := 0 } = some 1 :=
  ⟨line_idle _ _ _, rfl, line_noProduct _, rfl, fun h => h 0 11 (pocket 190) (by decide +kernel),
    ⟨line_noProduct .setup, nofun⟩, by decide +kernel, by decide +kernel, by decide +kernel, by decide +kernel⟩

/-- Accepted at 0, completing at 6 ms and at the deadline, 20 ms. -/
theorem witness_RecipeWriteCompletes :
    let s := writingLine .run (.recipe 7 cardRecipe)
    s.resetHeld = false ∧ (line .run []).store.engine = none ∧
      s.store.engine = some { target := .recipe 7 cardRecipe, port := 3, accepted := 0, due := ms 20 } ∧
      0 + ms 6 ≤ ms 6 ∧ ms 6 ≤ ms 20 ∧ (0 : Time) ≠ 1 :=
  ⟨rfl, rfl, rfl, by decide, by decide, by decide⟩

theorem witness_ConfigurationTakesEffect :
    let s := writingLine .setup (.configuration plantConfig)
    s.resetHeld = false ∧
      s.store.engine = some { target := .configuration plantConfig, port := 3, accepted := 0, due := ms 20 } ∧
      configFault plantConfig = none ∧ 0 + ms 12 ≤ ms 12 ∧ ms 12 ≤ ms 20 :=
  ⟨rfl, rfl, by decide +kernel, by decide, by decide⟩

theorem witness_StoreDeadlineAbandons (target : WriteTarget) :
    let s := writingLine .setup target
    s.resetHeld = false ∧ s.store.engine = some { target := target, port := 3, accepted := 0, due := ms 20 } ∧
      19999 < ms 20 ∧ ms 20 ≤ ms 20 :=
  ⟨rfl, rfl, by decide, Nat.le_refl _⟩

/-- Slot 15 and slot 16; slot 3, VALID and named; slot 7, being written; the configuration, being written or not. -/
theorem witness_StoreReads :
    let s := busyLine .run
    s.portIdle 3 ∧ (line .waking []).mode.mode = .waking ∧ s.mode.mode ≠ .waking ∧ 16 ≤ (16 : Byte).toNat ∧
      (3 : Byte).toNat = (3 : RecipeSlot).val ∧ s.slotNamed 3 ∧ ¬s.slotNamed 15 ∧
      (¬∃ w contents, s.store.engine = some w ∧ w.target = .recipe 3 contents) ∧
      (∃ w contents, (writingLine .run (.recipe 7 cardRecipe)).store.engine = some w ∧
        w.target = .recipe 7 contents) ∧
      (∃ w contents, (writingLine .setup (.configuration plantConfig)).store.engine = some w ∧
        w.target = .configuration contents) :=
  ⟨line_idle _ _ _, rfl, by decide +kernel, by decide, rfl, Or.inl ⟨0, 11, pocket 190, by decide +kernel, rfl⟩,
    not_slotNamed_of (by decide +kernel) (by decide +kernel), (by rintro ⟨_, _, h, _⟩; cases h),
    ⟨_, cardRecipe, rfl, rfl⟩, _, plantConfig, rfl, rfl⟩

theorem witness_NamedRecipeKeepsContents :
    let s : State := { writingLine .run (.recipe 7 cardRecipe) with pending := [.storeWriteCompletion (ms 6) 0] }
    s.storeLaw ∧ s.slotNamed 3 ∧ ∃ t, step s = .next t := by
  refine ⟨?_, Or.inr ⟨1, by decide +kernel, rfl⟩, _, rfl⟩
  unfold State.storeLaw
  decide +kernel

/-- A frame of no parameters and one of 119, their characters 100 us each and 10 ms apart. -/
theorem witness_FrameReceivedByteByByte :
    State.reset.resetHeld = false ∧ (State.reset.ports.get 3).receiver = .hunting ∧
      (Frame.good 0x01 []).params.length ≤ 119 ∧
      (Frame.good 0x01 (List.replicate 119 0)).params.length ≤ 119 ∧
      ∀ i : Nat, 10100 * (i + 1) ≤ 10100 * i + 100 + ms 10 :=
  ⟨rfl, rfl, by decide, by decide, fun i => by simp only [ms]; omega⟩

/-- The line with the receiver of port 3 as given. -/
def receivingLine (r : Receiver) : State :=
  { line .run [] with ports := (line .run []).ports.modify 3 fun p => { p with receiver := r } }

/-- A byte that is no SYNC; a start bit 10 ms and one microsecond after the last byte, and one exactly 10 ms after; LEN 1,
120, 0 and 121. -/
theorem witness_ReceiverRules :
    (receivingLine (.inFrame [] 0)).resetHeld = false ∧ ((line .run []).ports.get 3).receiver = .hunting ∧
      ((receivingLine (.inFrame [] 0)).ports.get 3).receiver = .inFrame [] 0 ∧
      ((receivingLine (.inFrame [5, 1] 0)).ports.get 3).receiver = .inFrame [5, 1] 0 ∧
      (0x5A : Byte) ≠ 0xA5 ∧ 0 + ms 10 < 10001 ∧ 10000 ≤ 0 + ms 10 ∧ 1 ≤ (1 : Byte).toNat ∧
      (120 : Byte).toNat ≤ 120 ∧ 120 < (121 : Byte).toNat := by decide +kernel

/-- The line with port 3 sending a response and holding a frame, or none. -/
def sendingLine (code : Byte) (held : Option Frame) : State :=
  { line .run [] with
    ports := (line .run []).ports.modify 3 fun p =>
      { p with
        sending := some { code := code, status := .ok, attention := false, lost := false, data := [] }
        held := held } }

theorem witness_FramesTakenInTurn :
    (sendingLine 0x02 none).resetHeld = false ∧ ((sendingLine 0x02 none).ports.get 3).held = none ∧
      (((sendingLine 0x02 none).ports.get 3).sending.map fun r => (r.code, r.status)) = some (0x02, .ok) ∧
      ((sendingLine 0x02 (some (Frame.good 0x01 []))).ports.get 3).held = some (Frame.good 0x01 []) ∧
      ((line .run []).ports.get 3).sending = none := by decide +kernel

/-- A frame with a bad check, a code that no request has, and a parameter too many. -/
theorem witness_FramesJudgedInOrder :
    (line .run []).portIdle 3 ∧
      (let f : Frame := { code := 0x01, params := [], check := 0x13 }
       f.check ≠ crc8 (f.len :: f.code :: f.params)) ∧
      (∀ r : Request, r.code ≠ 0x7F) ∧ [0].length ≠ (Request.params .identify).length :=
  ⟨line_idle _ _ _, by decide +kernel, fun r => by cases r <;> simp [Request.code], by decide⟩

theorem witness_PowerOnAndResetLine :
    State.reset.store.supplies factoryDefault ∧ State.reset.resetHeld = false ∧
      ({ State.reset with resetHeld := true } : State).resetHeld = true ∧
      (∀ now, Instr.identify 0 3 ≠ .powerOn now) ∧ (∀ now, Instr.identify 0 3 ≠ .resetLineAssert now) ∧
      (∀ now, Instr.identify 0 3 ≠ .resetLineRelease now) ∧
      (line .run []).store.supplies (configurationOf plantConfig) :=
  ⟨Or.inr ⟨nofun, rfl⟩, rfl, rfl, nofun, nofun, nofun, Or.inl ⟨plantConfig, rfl, by decide +kernel, rfl⟩⟩

theorem witness_PartResetKeepsNumbering :
    (line .run []).portIdle 3 ∧ (sendingLine 0x17 none).resetHeld = false ∧
      (((sendingLine 0x17 none).ports.get 3).sending.map fun r => (r.code, r.status)) = some (0x17, .ok) :=
  ⟨line_idle _ _ _, by decide +kernel⟩

theorem witness_IdentifyReply : State.reset.portIdle 2 := ⟨rfl, rfl, rfl⟩

/-- A set with bit 10, the first that is no flag, and one with every flag. -/
theorem witness_EventRequests :
    (line .run []).portIdle 3 ∧ (0x400 : BitVec 16).getLsbD 10 = true ∧
      ∀ n, 10 ≤ n → (0x3FF : BitVec 16).getLsbD n = false := by
  refine ⟨line_idle _ _ _, rfl, fun n hn => ?_⟩
  by_cases h : n < 16
  · interval_cases n <;> rfl
  · exact BitVec.getLsbD_of_ge _ _ (by omega)

theorem witness_StepKeepsPortsInv :
    let s : State := { sendingLine 0x02 (some (Frame.good 0x01 [])) with pending := [.responseSent 1 3] }
    s.portsInv ∧ ∃ t, step s = .next t := by
  refine ⟨?_, _, rfl⟩
  unfold State.portsInv StationPort.inv PortEvents.inv
  decide +kernel

end Sys2Proof.Tests
end

section
/-! # The Web Track

Proofs of the statements about the Web Track (chapter 1), the resets and the codes. The two invariants of the track rest on
`step_track`, which says once what a step can do to it; the statements about a taken index rest on `State.aborted_rows`,
the records that the gate finds. -/

namespace Sys2Proof.Machine
open Sys2Proof

/-! ## Commands

Each request command is the completion of its frame, and while the RESET line is held nothing but a reset acts. -/

/-- The arm of `exec` that a request's command meets (assumption 5). -/
theorem exec_command (now : Time) (port : Port) (r : Request) (s : State) :
    exec (r.command now port) s = .next (submit now port r s) := by
  cases r <;> rfl

/-- A request whose frame completes on an idle port: what its command answers. -/
theorem exec_command_idle {s : State} {port : Port} (h : s.portIdle port) (now : Time) (r : Request) :
    exec (r.command now port) s =
      .next ((takeRequest now port r s).1.answering port r.code (takeRequest now port r s).2.status
        (takeRequest now port r s).2.data) := by
  rw [exec_command, submit_idle s h]

theorem deliver_of_held {s : State} (h : s.resetHeld = true) (port : Port) (f : Frame) (answer : State → State) :
    deliver port f answer s = s := by
  simp [deliver, h]

theorem State.receiveByte_of_held {s : State} (h : s.resetHeld = true) (begun now : Time) (port : Port) (b : Byte) :
    s.receiveByte begun now port b = s := by
  simp [State.receiveByte, h]

/-- R140: while the RESET line is held, every command but the three resets leaves the state as it is. -/
theorem exec_of_held (c : Instr) {s : State} (h : s.resetHeld = true) (hp : ∀ now, c ≠ .powerOn now)
    (ha : ∀ now, c ≠ .resetLineAssert now) (hr : ∀ now, c ≠ .resetLineRelease now) : exec c s = .next s := by
  cases c with
  | powerOn now => exact absurd rfl (hp now)
  | resetLineAssert now => exact absurd rfl (ha now)
  | resetLineRelease now => exact absurd rfl (hr now)
  | indexEdge | sealRisingEdge | round | roundCap | sealFallingEdge | idlePass | rejectPulseExpiry | selfCheckExpiry
  | storeWriteCompletion | storeWriteDeadline | partResetTaken | interByteGap | responseSent =>
    exact congrArg Host.Outcome.next (if_pos h)
  | badLenFrame => exact congrArg Host.Outcome.next (State.receiveByte_of_held h ..)
  | byteReceived _ _ _ _ stopOk =>
    cases stopOk
    · rfl
    · exact congrArg Host.Outcome.next (State.receiveByte_of_held h ..)
  | _ => exact congrArg Host.Outcome.next (deliver_of_held h ..)

/-! ## What a step can do to the track

The invariants of the track read four things: the geometry with the identities of the records, the stations, the
serials that the stroke in flight captured, and the write engine. A step keeps them, loses the track, starts a stroke
or shifts the track; each relation below says what it does to those four. -/

/-- The serial that the stroke in flight, if any, captured in a lane (R83). -/
def State.captured (s : State) (n : Lane) : Option Serial :=
  s.stroke.phase.stroke?.bind fun k => (k.lanes.get n).serial

/-- The serial of the PRODUCT record, if any, at a position. -/
def State.serialAt (s : State) (lane : Lane) (slot : Nat) : Option Serial :=
  (s.recordAt lane slot).bind fun r => r.product?.map fun p => p.serial

theorem State.captured_eq_some {s : State} {n : Lane} {x : Serial} :
    s.captured n = some x ↔ ∃ k, s.stroke.phase.stroke? = some k ∧ (k.lanes.get n).serial = some x :=
  Option.bind_eq_some_iff

theorem Record.product?_eq_some {r : Record} {p : Product} : r.product? = some p ↔ r = .product p := by
  cases r <;> simp [Record.product?]

theorem State.serialAt_eq_some {s : State} {lane : Lane} {slot : Nat} {x : Serial} :
    s.serialAt lane slot = some x ↔ ∃ p, s.recordAt lane slot = some (.product p) ∧ p.serial = x := by
  simp [State.serialAt, Option.bind_eq_some_iff, Record.product?_eq_some]

/-- `serialInv`, said by position and serial alone. -/
theorem State.serialInv_iff (s : State) :
    s.serialInv ↔
      s.web.nextSerial ≠ 0 ∧
      (∀ lane slot x, s.serialAt lane slot = some x →
        x ≠ 0 ∧ 1 ≤ serialAge s.web.nextSerial x ∧ serialAge s.web.nextSerial x ≤ s.web.lanes * (slot + 1)) ∧
      (∀ lane slot lane' slot' x, s.serialAt lane slot = some x → s.serialAt lane' slot' = some x →
        lane = lane' ∧ slot = slot') ∧
      (∀ n n' x, s.captured n = some x → s.captured n' = some x → n = n') := by
  simp only [State.serialAt_eq_some, State.captured_eq_some]
  constructor
  · rintro ⟨hc, ha, hu, hk⟩
    refine ⟨hc, ?_, ?_, ?_⟩
    · rintro lane slot _ ⟨p, hp, rfl⟩
      exact ha lane slot p hp
    · rintro lane slot lane' slot' _ ⟨p, hp, rfl⟩ ⟨p', hp', he⟩
      exact hu lane slot p lane' slot' p' hp hp' he.symm
    · rintro n n' x ⟨k, hs, hn⟩ ⟨k', hs', hn'⟩
      obtain rfl : k = k' := Option.some.inj (hs.symm.trans hs')
      exact hk k n n' x hs hn hn'
  · rintro ⟨hc, ha, hu, hk⟩
    exact ⟨hc, fun lane slot p hp => ha lane slot _ ⟨p, hp, rfl⟩,
      fun lane slot p lane' slot' p' hp hp' he => hu lane slot lane' slot' _ ⟨p, hp, rfl⟩ ⟨p', hp', he.symm⟩,
      fun k n n' x hs hn hn' => hk n n' x ⟨k, hs, hn⟩ ⟨k, hs, hn'⟩⟩

/-- `captureInv`, said by position and serial alone. -/
theorem State.captureInv_iff (s : State) :
    s.captureInv ↔ ∀ n x, s.captured n = some x →
      x ≠ 0 ∧ 1 ≤ serialAge s.web.nextSerial x ∧ serialAge s.web.nextSerial x ≤ 192 ∧
      ∀ lane slot, s.serialAt lane slot = some x →
        lane = n ∧ s.verdict.stations.heatSeal.enabled = true ∧ slot = s.verdict.stations.heatSeal.slot := by
  simp only [State.serialAt_eq_some, State.captured_eq_some]
  constructor
  · rintro h n x ⟨k, hs, hn⟩
    obtain ⟨h0, h1, h2, hp⟩ := h k n x hs hn
    exact ⟨h0, h1, h2, fun lane slot ⟨p, hr, he⟩ => hp lane slot p hr he⟩
  · intro h k n x hs hn
    obtain ⟨h0, h1, h2, hp⟩ := h n x ⟨k, hs, hn⟩
    exact ⟨h0, h1, h2, fun lane slot p hr he => hp lane slot ⟨p, hr, he⟩⟩

/-- Every record stands where it stood, with the Kind, serial and recipe it had (R2, R3). -/
def sameIdentities (rows rows' : Quad (List Record)) : Prop :=
  ∀ lane : Lane, (rows'.get lane).map Record.identity = (rows.get lane).map Record.identity

theorem sameIdentities.refl (rows : Quad (List Record)) : sameIdentities rows rows := fun _ => rfl

theorem sameIdentities.trans {a b c : Quad (List Record)} (h : sameIdentities a b) (h' : sameIdentities b c) :
    sameIdentities a c := fun lane => (h' lane).trans (h lane)

theorem sameIdentities.length {a b : Quad (List Record)} (h : sameIdentities a b) (lane : Lane) :
    (b.get lane).length = (a.get lane).length := by
  simpa using congrArg List.length (h lane)

/-- The serial that an identity carries is the record's. -/
theorem Record.identity_serial (r : Record) : r.identity.2.map (·.1) = r.product?.map fun p => p.serial := by
  cases r <;> rfl

theorem State.serialAt_of_sameIdentities {s t : State} (h : sameIdentities s.web.rows t.web.rows) (lane : Lane)
    (slot : Nat) : t.serialAt lane slot = s.serialAt lane slot := by
  have hi : (t.recordAt lane slot).map Record.identity = (s.recordAt lane slot).map Record.identity := by
    simpa [State.recordAt] using congrArg (·[slot]?) (h lane)
  have key (o : Option Record) :
      (o.bind fun r => r.product?.map fun p => p.serial) = (o.map Record.identity).bind (·.2.map (·.1)) := by
    cases o <;> simp [Record.identity_serial]
  rw [State.serialAt, State.serialAt, key, key, hi]

/-- From `s` to `t` the track keeps its geometry, its records' identities, its counter and its stations, no lane
captures a serial it had not captured, and a write in flight stays checked. -/
structure State.keepsTrack (s t : State) : Prop where
  lanes : t.web.lanes = s.web.lanes
  length : t.web.length = s.web.length
  nextSerial : t.web.nextSerial = s.web.nextSerial
  rows : sameIdentities s.web.rows t.web.rows
  stations : t.verdict.stations = s.verdict.stations
  captured : ∀ n x, t.captured n = some x → s.captured n = some x
  engine : s.store.engineChecked → t.store.engineChecked

/-- From `s` to `t` the track is lost, at a geometry that fits the stations if that of `s` did (R22); the counter is
kept, or the stroke is gone with the counter at 1 (R31). -/
structure State.losesTrack (s t : State) : Prop where
  rows : t.web.rows = untrackedRows t.web.lanes t.web.length
  geometry : s.geometryInv →
    (1 ≤ t.web.lanes ∧ t.web.lanes ≤ 4 ∧ 8 ≤ t.web.length ∧ t.web.length ≤ 48) ∧
      t.verdict.stations.placed t.web.length ∧ t.store.engineChecked
  numbering : (t.web.nextSerial = s.web.nextSerial ∧ ∀ n x, t.captured n = some x → s.captured n = some x) ∨
    (t.web.nextSerial = 1 ∧ ∀ n, t.captured n = none)

/-- From `s` to `t` a stroke starts, which captures serials at the SEAL slot of lanes below N alone (R83). -/
structure State.startsStroke (s t : State) : Prop where
  web : t.web = s.web
  verdict : t.verdict = s.verdict
  store : t.store = s.store
  captured : ∀ n x, t.captured n = some x →
    n.val < s.web.lanes ∧ s.verdict.stations.heatSeal.enabled = true ∧
      s.serialAt n s.verdict.stations.heatSeal.slot = some x

/-- The state whose track has taken the index edge, before the index is handed on (R17, R18). -/
def State.shifted (s : State) (now : Time) : State := s.setWeb ((s.web.countEdge now).shift s.mode)

/-- From `s` to `t` the track shifts, and no stroke is left in flight (R18, R98). -/
structure State.shiftsTrack (s t : State) : Prop where
  kept : ∃ now, (s.shifted now).keepsTrack t
  idle : ∀ n, t.captured n = none

theorem State.keepsTrack.refl (s : State) : s.keepsTrack s :=
  ⟨rfl, rfl, rfl, .refl _, rfl, fun _ _ h => h, id⟩

theorem State.keepsTrack.trans {s t u : State} (h : s.keepsTrack t) (h' : t.keepsTrack u) : s.keepsTrack u :=
  ⟨h'.lanes.trans h.lanes, h'.length.trans h.length, h'.nextSerial.trans h.nextSerial, h.rows.trans h'.rows,
    h'.stations.trans h.stations, fun n x hx => h.captured n x (h'.captured n x hx), fun he => h'.engine (h.engine he)⟩

/-! ### The invariants across each kind of step -/

theorem State.keepsTrack.serialAt {s t : State} (h : s.keepsTrack t) (lane : Lane) (slot : Nat) :
    t.serialAt lane slot = s.serialAt lane slot := State.serialAt_of_sameIdentities h.rows lane slot

theorem State.keepsTrack.geometryInv {s t : State} (h : s.keepsTrack t) (hg : s.geometryInv) : t.geometryInv := by
  obtain ⟨⟨h1, h2, h3, h4, h5⟩, hp, he⟩ := hg
  refine ⟨⟨?_, ?_, ?_, ?_, fun lane => ?_⟩, ?_, h.engine he⟩
  · rwa [h.lanes]
  · rwa [h.lanes]
  · rwa [h.length]
  · rwa [h.length]
  · rw [h.rows.length, h5, h.lanes, h.length]
  · rwa [h.stations, h.length]

theorem State.keepsTrack.serialInv {s t : State} (h : s.keepsTrack t) (hs : s.serialInv) : t.serialInv := by
  rw [State.serialInv_iff] at hs ⊢
  obtain ⟨hc, ha, hu, hk⟩ := hs
  simp only [h.serialAt, h.nextSerial, h.lanes]
  exact ⟨hc, ha, hu, fun n n' x hn hn' => hk n n' x (h.captured n x hn) (h.captured n' x hn')⟩

theorem State.keepsTrack.captureInv {s t : State} (h : s.keepsTrack t) (hs : s.captureInv) : t.captureInv := by
  rw [State.captureInv_iff] at hs ⊢
  simp only [h.serialAt, h.nextSerial, h.stations]
  exact fun n x hn => hs n x (h.captured n x hn)

@[simp] theorem untrackedRows_get (lanes length : Nat) (lane : Lane) :
    (untrackedRows lanes length).get lane = if lane.val < lanes then List.replicate length .untracked else [] := by
  simp [untrackedRows]

/-- A lost track holds no PRODUCT record (R22). -/
theorem State.serialAt_of_untracked {s : State} (h : s.web.rows = untrackedRows s.web.lanes s.web.length)
    (lane : Lane) (slot : Nat) : s.serialAt lane slot = none := by
  rw [State.serialAt, State.recordAt, h, untrackedRows_get]
  split
  · rw [List.getElem?_replicate]
    split <;> rfl
  · rfl

theorem State.losesTrack.geometryInv {s t : State} (h : s.losesTrack t) (hg : s.geometryInv) : t.geometryInv := by
  obtain ⟨⟨h1, h2, h3, h4⟩, hp, he⟩ := h.geometry hg
  refine ⟨⟨h1, h2, h3, h4, fun lane => ?_⟩, hp, he⟩
  rw [h.rows, untrackedRows_get]
  split <;> simp

theorem State.losesTrack.serialInv {s t : State} (h : s.losesTrack t) (hs : s.serialInv) : t.serialInv := by
  rw [State.serialInv_iff] at hs ⊢
  obtain ⟨hc, -, -, hk⟩ := hs
  simp only [State.serialAt_of_untracked h.rows]
  refine ⟨?_, nofun, nofun, ?_⟩
  · obtain ⟨hn, -⟩ | ⟨hn, -⟩ := h.numbering
    · rwa [hn]
    · rw [hn]
      decide
  · obtain ⟨-, hcap⟩ | ⟨-, hcap⟩ := h.numbering
    · exact fun n n' x hn hn' => hk n n' x (hcap n x hn) (hcap n' x hn')
    · intro n n' x hn
      simp [hcap] at hn

theorem State.losesTrack.captureInv {s t : State} (h : s.losesTrack t) (hs : s.captureInv) : t.captureInv := by
  rw [State.captureInv_iff] at hs ⊢
  simp only [State.serialAt_of_untracked h.rows]
  intro n x hn
  obtain ⟨hc, hcap⟩ | ⟨-, hcap⟩ := h.numbering
  · obtain ⟨h0, h1, h2, -⟩ := hs n x (hcap n x hn)
    rw [hc]
    exact ⟨h0, h1, h2, nofun⟩
  · simp [hcap] at hn

theorem State.startsStroke.serialAt {s t : State} (h : s.startsStroke t) (lane : Lane) (slot : Nat) :
    t.serialAt lane slot = s.serialAt lane slot := by
  rw [State.serialAt, State.recordAt, h.web]
  rfl

theorem State.startsStroke.geometryInv {s t : State} (h : s.startsStroke t) (hg : s.geometryInv) :
    t.geometryInv := by
  rwa [State.geometryInv, h.web, h.verdict, h.store]

theorem State.startsStroke.serialInv {s t : State} (h : s.startsStroke t) (hs : s.serialInv) : t.serialInv := by
  rw [State.serialInv_iff] at hs ⊢
  obtain ⟨hc, ha, hu, -⟩ := hs
  simp only [h.serialAt, h.web]
  refine ⟨hc, ha, hu, fun n n' x hn hn' => ?_⟩
  obtain ⟨-, -, hx⟩ := h.captured n x hn
  obtain ⟨-, -, hx'⟩ := h.captured n' x hn'
  exact (hu _ _ _ _ x hx hx').1

/-- A serial captured at the SEAL slot is, like its record, one of the latest N x L issues. -/
theorem State.startsStroke.captureInv {s t : State} (h : s.startsStroke t) (hg : s.geometryInv)
    (hs : s.serialInv) : t.captureInv := by
  obtain ⟨⟨-, hN, -, hL, -⟩, ⟨-, -, hseal⟩, -⟩ := hg
  rw [State.serialInv_iff] at hs
  obtain ⟨-, ha, hu, -⟩ := hs
  rw [State.captureInv_iff]
  simp only [h.serialAt, h.web, h.verdict]
  intro n x hn
  obtain ⟨-, he, hx⟩ := h.captured n x hn
  obtain ⟨h0, h1, h2⟩ := ha _ _ x hx
  have hslot := hseal he
  refine ⟨h0, h1, ?_, fun lane slot hp => ?_⟩
  · calc serialAge s.web.nextSerial x ≤ s.web.lanes * (s.verdict.stations.heatSeal.slot + 1) := h2
      _ ≤ 4 * 48 := Nat.mul_le_mul hN (by omega)
  · obtain ⟨rfl, rfl⟩ := hu _ _ _ _ x hp hx
    exact ⟨rfl, he, rfl⟩

/-! ### Serial numbers (R11) -/

theorem serialAfter_ne_zero (n : Serial) : serialAfter n ≠ 0 := by
  unfold serialAfter
  split <;> bv_omega

theorem serialAfter_toNat {n : Serial} (h : n ≠ 0) :
    (serialAfter n).toNat = if n.toNat = 16777215 then 1 else n.toNat + 1 := by
  unfold serialAfter
  split <;> split <;> bv_omega

@[simp] theorem serialAfterIssues_zero (n : Serial) : serialAfterIssues 0 n = n := rfl

theorem serialAfterIssues_succ (k : Nat) (n : Serial) :
    serialAfterIssues (k + 1) n = serialAfter (serialAfterIssues k n) :=
  Function.iterate_succ_apply' serialAfter k n

theorem serialAfterIssues_ne_zero (k : Nat) {n : Serial} (h : n ≠ 0) : serialAfterIssues k n ≠ 0 := by
  cases k with
  | zero => exact h
  | succ k => exact serialAfterIssues_succ k n ▸ serialAfter_ne_zero _

@[simp] theorem serialAge_self (c : Serial) : serialAge c c = 0 := by
  simp [serialAge]

theorem serial_toNat_pos {n : Serial} (h : n ≠ 0) : 0 < n.toNat := by
  bv_omega

/-- An issue moves every serial one further back in the counter's cycle. -/
theorem serialAge_serialAfter {c n : Serial} (hc : c ≠ 0) (hn : n ≠ 0) :
    serialAge (serialAfter c) n = (serialAge c n + 1) % 16777215 := by
  have := c.isLt
  have := n.isLt
  have := serial_toNat_pos hn
  rw [serialAge, serialAge, serialAfter_toNat hc]
  split <;> omega

theorem serialAge_serialAfterIssues {c n : Serial} (hc : c ≠ 0) (hn : n ≠ 0) (k : Nat) :
    serialAge (serialAfterIssues k c) n = (serialAge c n + k) % 16777215 := by
  induction k with
  | zero => simp [serialAge]
  | succ k ih =>
    rw [serialAfterIssues_succ, serialAge_serialAfter (serialAfterIssues_ne_zero k hc) hn, ih]
    omega

/-- Within the cycle the age of a serial grows by the number of issues. -/
theorem serialAge_add {c n : Serial} (hc : c ≠ 0) (hn : n ≠ 0) {k : Nat} (h : serialAge c n + k < 16777215) :
    serialAge (serialAfterIssues k c) n = serialAge c n + k := by
  rw [serialAge_serialAfterIssues hc hn, Nat.mod_eq_of_lt h]

/-- The serial that issue `i` gives has, after `j` issues in all, the age `j - i`. -/
theorem serialAge_issue {c : Serial} (hc : c ≠ 0) {i j : Nat} (hij : i ≤ j) (hj : j < 16777215) :
    serialAge (serialAfterIssues j c) (serialAfterIssues i c) = j - i := by
  have hi := serialAfterIssues_ne_zero i hc
  have h : serialAfterIssues j c = serialAfterIssues (j - i) (serialAfterIssues i c) := by
    rw [serialAfterIssues, serialAfterIssues, serialAfterIssues, ← Function.iterate_add_apply]
    congr 1
    omega
  rw [h, serialAge_add hi hi (by rw [serialAge_self]; omega), serialAge_self, Nat.zero_add]

/-- A serial that has been issued is not issued again within the cycle (R12). -/
theorem serialAfterIssues_ne {c n : Serial} (hc : c ≠ 0) (hn : n ≠ 0) (h1 : 1 ≤ serialAge c n) {k : Nat}
    (h : serialAge c n + k < 16777215) : serialAfterIssues k c ≠ n := by
  intro he
  have hage := serialAge_add hc hn h
  rw [he, serialAge_self] at hage
  omega

/-- The issues of one cycle give distinct serials (R11). -/
theorem serialAfterIssues_inj {c : Serial} (hc : c ≠ 0) {i j : Nat} (hi : i < 16777215) (hj : j < 16777215)
    (h : serialAfterIssues i c = serialAfterIssues j c) : i = j := by
  obtain hij | hij := Nat.le_total i j
  · have hage := serialAge_issue hc hij hj
    rw [h, serialAge_self] at hage
    omega
  · have hage := serialAge_issue hc hij hi
    rw [h, serialAge_self] at hage
    omega

/-! ### The track shift (R18, R19) -/

/-- R19: the lane's entry record takes a serial. -/
def WebTrack.issues (w : WebTrack) (m : ModeController) (n : Lane) : Bool :=
  decide (n.val < w.lanes) && (m.mode == .run && m.laneMask.get n && (m.assignments.get n).isSome)

/-- R11: how many serials a shift gives to the lanes below `k`. -/
def WebTrack.issuesBelow (w : WebTrack) (m : ModeController) (k : Nat) : Nat :=
  lanes4.countP fun n => decide (n.val < k) && w.issues m n

/-- R19: the entry record that a shift brings into a lane. -/
def WebTrack.entry (w : WebTrack) (m : ModeController) (lane : Lane) : Record :=
  (entryRecord m lane (serialAfterIssues (w.issuesBelow m lane.val) w.nextSerial)).1

section
variable (w : WebTrack) (m : ModeController)

theorem WebTrack.issuesBelow_succ (n : Lane) :
    w.issuesBelow m (n.val + 1) = w.issuesBelow m n.val + if w.issues m n then 1 else 0 := by
  fin_cases n <;> simp [WebTrack.issuesBelow, lanes4, List.countP_cons] <;> omega

theorem WebTrack.issuesBelow_mono {k k' : Nat} (h : k ≤ k') : w.issuesBelow m k ≤ w.issuesBelow m k' := by
  refine List.countP_mono_left fun n _ hn => ?_
  simp only [Bool.and_eq_true, decide_eq_true_eq] at hn ⊢
  exact ⟨hn.1.trans_le h, hn.2⟩

theorem WebTrack.issuesBelow_lt {n : Lane} {k : Nat} (hi : w.issues m n = true) (hk : n.val < k) :
    w.issuesBelow m n.val < w.issuesBelow m k := by
  have := w.issuesBelow_succ m n
  have := w.issuesBelow_mono m hk
  simp_all only [if_true, Nat.succ_eq_add_one]
  omega

theorem WebTrack.issuesBelow_inj {n n' : Lane} (hi : w.issues m n = true) (hi' : w.issues m n' = true)
    (h : w.issuesBelow m n.val = w.issuesBelow m n'.val) : n = n' := by
  by_contra hne
  obtain hlt | hlt := Nat.lt_or_gt_of_ne (Fin.val_ne_of_ne hne)
  · exact (w.issuesBelow_lt m hi hlt).ne h
  · exact (w.issuesBelow_lt m hi' hlt).ne' h

theorem WebTrack.issuesBelow_le : w.issuesBelow m 4 ≤ w.lanes := by
  have h : w.issuesBelow m 4 ≤ lanes4.countP fun n => decide (n.val < w.lanes) := by
    refine List.countP_mono_left fun n _ hn => ?_
    simp only [WebTrack.issues, Bool.and_eq_true] at hn
    obtain ⟨-, hl, -⟩ := hn
    exact hl
  refine h.trans ?_
  simp only [lanes4, List.countP_cons, List.countP_nil, decide_eq_true_eq]
  split <;> split <;> split <;> split <;> simp_all <;> omega

theorem entryRecord_issue {w : WebTrack} {m : ModeController} {lane : Lane} (hl : lane.val < w.lanes) (n : Serial) :
    (entryRecord m lane n).2 = if w.issues m lane then serialAfter n else n := by
  simp only [entryRecord, WebTrack.issues, hl, decide_true, Bool.true_and, Bool.and_eq_true, beq_iff_eq]
  rcases ha : m.assignments.get lane with _ | recipe <;> by_cases hr : m.mode = .run ∧ m.laneMask.get lane = true <;>
    simp [hr]

/-- A lane served in its turn: its row shifted, and the counter as its issues leave it. -/
theorem shiftRow_eq (lane : Lane) :
    shiftRow w m lane (serialAfterIssues (w.issuesBelow m lane.val) w.nextSerial) =
      (if lane.val < w.lanes then w.entry m lane :: (w.rows.get lane).dropLast else w.rows.get lane,
        serialAfterIssues (w.issuesBelow m (lane.val + 1)) w.nextSerial) := by
  rw [WebTrack.issuesBelow_succ]
  unfold shiftRow
  split
  · rename_i hl
    simp only [entryRecord_issue hl]
    split <;> simp [WebTrack.entry, serialAfterIssues_succ]
  · rename_i hl
    have : w.issues m lane = false := by simp [WebTrack.issues, hl]
    simp [this]

/-- R18: the lanes are served in order, so each lane's entry record takes the counter that the lanes below it leave. -/
theorem WebTrack.shift_eq :
    w.shift m =
      { w with
        rows := Quad.ofFn fun lane =>
          if lane.val < w.lanes then w.entry m lane :: (w.rows.get lane).dropLast else w.rows.get lane
        nextSerial := serialAfterIssues (w.issuesBelow m 4) w.nextSerial } := by
  have h0 : shiftRow w m 0 w.nextSerial = _ := shiftRow_eq w m 0
  have h1 := shiftRow_eq w m 1
  have h2 := shiftRow_eq w m 2
  have h3 := shiftRow_eq w m 3
  simp only [Fin.isValue, Fin.val_zero, Fin.val_one, Fin.val_two, Nat.zero_add, Nat.reduceAdd,
    show ((3 : Lane).val) = 3 from rfl] at h0 h1 h2 h3
  simp only [WebTrack.shift, h0, h1, h2, h3]
  rfl

/-- A lane whose entry record is PRODUCT is one that takes a serial, and the record carries that serial. -/
theorem WebTrack.entry_eq_product {lane : Lane} {p : Product} (hl : lane.val < w.lanes)
    (h : w.entry m lane = .product p) :
    w.issues m lane = true ∧ p.serial = serialAfterIssues (w.issuesBelow m lane.val) w.nextSerial := by
  simp only [WebTrack.entry, entryRecord] at h
  split at h
  · rename_i hr
    rcases ha : m.assignments.get lane with _ | recipe
    · simp [ha] at h
    · simp only [ha, Record.product.injEq] at h
      subst h
      simp [WebTrack.issues, hl, hr, ha, Product.fresh]
  · simp at h

end

/-- R13, R18: the Web Track after a taken edge that shifts. -/
theorem State.shifted_web (s : State) (now : Time) :
    (s.shifted now).web =
      { s.web with
        indexCount := s.web.indexCount + 1
        lastTaken := some now
        rows := Quad.ofFn fun lane =>
          if lane.val < s.web.lanes then s.web.entry s.mode lane :: (s.web.rows.get lane).dropLast
          else s.web.rows.get lane
        nextSerial := serialAfterIssues (s.web.issuesBelow s.mode 4) s.web.nextSerial } :=
  WebTrack.shift_eq (s.web.countEdge now) s.mode

theorem WebTrack.shaped.lanes_le {w : WebTrack} (h : w.shaped) : w.lanes ≤ 4 := by
  obtain ⟨-, hN, -⟩ := h
  exact hN

theorem WebTrack.shaped.le_length {w : WebTrack} (h : w.shaped) : 8 ≤ w.length := by
  obtain ⟨-, -, hL, -⟩ := h
  exact hL

theorem WebTrack.shaped.length_le {w : WebTrack} (h : w.shaped) : w.length ≤ 48 := by
  obtain ⟨-, -, -, hL, -⟩ := h
  exact hL

theorem WebTrack.shaped.rows_get_of_le {w : WebTrack} (h : w.shaped) {lane : Lane} (hl : w.lanes ≤ lane.val) :
    w.rows.get lane = [] := by
  obtain ⟨-, -, -, -, hr⟩ := h
  simpa [Nat.not_lt.mpr hl] using hr lane

theorem WebTrack.shaped.rows_length {w : WebTrack} (h : w.shaped) {lane : Lane} (hl : lane.val < w.lanes) :
    (w.rows.get lane).length = w.length := by
  obtain ⟨-, -, -, -, hr⟩ := h
  simpa [hl] using hr lane

/-- A shaped track holds records at the positions of its geometry alone (R1). -/
theorem WebTrack.shaped.lane_lt {s : State} (h : s.web.shaped) {lane : Lane} {slot : Nat} {r : Record}
    (hr : s.recordAt lane slot = some r) : lane.val < s.web.lanes := by
  by_contra hl
  simp [State.recordAt, h.rows_get_of_le (Nat.not_lt.mp hl)] at hr

theorem WebTrack.shaped.slot_lt {s : State} (h : s.web.shaped) {lane : Lane} {slot : Nat} {r : Record}
    (hr : s.recordAt lane slot = some r) : slot < s.web.length := by
  rw [← h.rows_length (h.lane_lt hr)]
  exact (List.getElem?_eq_some_iff.mp hr).1

theorem State.shifted_row {s : State} (now : Time) {lane : Lane} (hl : lane.val < s.web.lanes) :
    (s.shifted now).web.rows.get lane = s.web.entry s.mode lane :: (s.web.rows.get lane).dropLast := by
  simp [State.shifted_web, hl]

/-- R18: what stands at the entry slot after the shift is the entry record. -/
theorem State.shifted_recordAt_zero {s : State} (now : Time) {lane : Lane} (hl : lane.val < s.web.lanes) :
    (s.shifted now).recordAt lane 0 = some (s.web.entry s.mode lane) := by
  simp [State.recordAt, State.shifted_row now hl]

/-- R18: every record but the one at the gate slot moves one slot on. -/
theorem State.shifted_recordAt_succ {s : State} (hw : s.web.shaped) (now : Time) {lane : Lane} {slot : Nat}
    (hl : lane.val < s.web.lanes) (hs : slot + 1 < s.web.length) :
    (s.shifted now).recordAt lane (slot + 1) = s.recordAt lane slot := by
  have hlen := hw.rows_length hl
  rw [State.recordAt, State.shifted_row now hl, List.getElem?_cons_succ, List.getElem?_dropLast, if_pos (by omega)]
  rfl

theorem State.shifted_shaped {s : State} (hw : s.web.shaped) (now : Time) : (s.shifted now).web.shaped := by
  have hw' := hw
  obtain ⟨h1, h2, h3, h4, -⟩ := hw
  rw [State.shifted_web]
  refine ⟨h1, h2, h3, h4, fun lane => ?_⟩
  by_cases hl : lane.val < s.web.lanes
  · simp [hl, hw'.rows_length hl]
    omega
  · simp [hl, hw'.rows_get_of_le (Nat.not_lt.mp hl)]

theorem State.shifted_geometryInv {s : State} (hg : s.geometryInv) (now : Time) : (s.shifted now).geometryInv := by
  obtain ⟨hw, hp, he⟩ := hg
  refine ⟨State.shifted_shaped hw now, ?_, he⟩
  rwa [State.shifted_web]

/-- R11, R18: a serial on the shifted track is one that this shift issued, in its lane's entry slot, or one that stood
one slot before. -/
theorem State.shifted_serialAt {s : State} (hw : s.web.shaped) (now : Time) {lane : Lane} {slot : Nat} {x : Serial}
    (h : (s.shifted now).serialAt lane slot = some x) :
    (slot = 0 ∧ s.web.issues s.mode lane = true ∧
        x = serialAfterIssues (s.web.issuesBelow s.mode lane.val) s.web.nextSerial) ∨
      ∃ k, slot = k + 1 ∧ k + 1 < s.web.length ∧ s.serialAt lane k = some x := by
  obtain ⟨p, hp, rfl⟩ := State.serialAt_eq_some.mp h
  have hw' := State.shifted_shaped hw now
  have hl : lane.val < s.web.lanes := by
    simpa [State.shifted_web] using hw'.lane_lt hp
  have hs : slot < s.web.length := by
    simpa [State.shifted_web] using hw'.slot_lt hp
  cases slot with
  | zero =>
    rw [State.shifted_recordAt_zero now hl, Option.some.injEq] at hp
    exact .inl ⟨rfl, WebTrack.entry_eq_product _ _ hl hp⟩
  | succ k =>
    rw [State.shifted_recordAt_succ hw now hl hs] at hp
    exact .inr ⟨k, rfl, hs, State.serialAt_eq_some.mpr ⟨p, hp, rfl⟩⟩

/-- R11, R12: a shift adds its issues to the age of every serial that stays. -/
theorem State.serialAge_shifted {s : State} (hg : s.geometryInv) (hs : s.serialInv) {lane : Lane} {k : Nat}
    {x : Serial} (hk : k + 1 < s.web.length) (hx : s.serialAt lane k = some x) :
    serialAge (serialAfterIssues (s.web.issuesBelow s.mode 4) s.web.nextSerial) x =
      serialAge s.web.nextSerial x + s.web.issuesBelow s.mode 4 := by
  obtain ⟨⟨-, hN, -, hL, -⟩, -⟩ := hg
  rw [State.serialInv_iff] at hs
  obtain ⟨hc, ha, -⟩ := hs
  obtain ⟨h0, -, h2⟩ := ha lane k x hx
  have hb := s.web.issuesBelow_le s.mode
  have : s.web.lanes * (k + 1) ≤ 4 * 48 := Nat.mul_le_mul hN (by omega)
  exact serialAge_add hc h0 (by omega)

/-- R12: the serials of a shift are distinct from one another and from every serial that stays. -/
theorem State.shifted_serialInv {s : State} (hg : s.geometryInv) (hs : s.serialInv) (now : Time) :
    (s.shifted now).serialInv := by
  have hstay := @State.serialAge_shifted s hg hs
  obtain ⟨hw, -, -⟩ := hg
  have hN := hw.lanes_le
  have hL := hw.length_le
  rw [State.serialInv_iff] at hs ⊢
  obtain ⟨hc, ha, hu, hk⟩ := hs
  have hb4 := s.web.issuesBelow_le s.mode
  have hlt (lane : Lane) (hi : s.web.issues s.mode lane = true) :
      s.web.issuesBelow s.mode lane.val < s.web.issuesBelow s.mode 4 := s.web.issuesBelow_lt s.mode hi lane.isLt
  have hnew (lane lane' : Lane) (k : Nat) (x : Serial) (hi : s.web.issues s.mode lane = true)
      (hx : s.serialAt lane' k = some x) (hkL : k + 1 < s.web.length) :
      serialAfterIssues (s.web.issuesBelow s.mode lane.val) s.web.nextSerial ≠ x := by
    obtain ⟨h0, h1, h2⟩ := ha lane' k x hx
    have := hlt lane hi
    have : s.web.lanes * (k + 1) ≤ 4 * 48 := Nat.mul_le_mul hN (by omega)
    exact serialAfterIssues_ne hc h0 h1 (by omega)
  have hnext : (s.shifted now).web.nextSerial =
      serialAfterIssues (s.web.issuesBelow s.mode 4) s.web.nextSerial := by rw [State.shifted_web]
  have hlanes : (s.shifted now).web.lanes = s.web.lanes := by rw [State.shifted_web]
  rw [hnext, hlanes]
  refine ⟨serialAfterIssues_ne_zero _ hc, fun lane slot x hx => ?_, fun lane slot lane' slot' x hx hx' => ?_, hk⟩
  · obtain ⟨rfl, hi, rfl⟩ | ⟨k, rfl, hkL, hx⟩ := State.shifted_serialAt hw now hx
    · have := hlt lane hi
      rw [serialAge_issue hc this.le (by omega)]
      exact ⟨serialAfterIssues_ne_zero _ hc, by omega, by omega⟩
    · obtain ⟨h0, h1, h2⟩ := ha lane k x hx
      rw [hstay hkL hx, Nat.mul_add_one]
      exact ⟨h0, by omega, by omega⟩
  · obtain ⟨rfl, hi, he⟩ | ⟨k, rfl, hkL, hx⟩ := State.shifted_serialAt hw now hx <;>
      obtain ⟨rfl, hi', he'⟩ | ⟨k', rfl, hkL', hx'⟩ := State.shifted_serialAt hw now hx'
    · have h := hlt lane hi
      have h' := hlt lane' hi'
      exact ⟨s.web.issuesBelow_inj s.mode hi hi' (serialAfterIssues_inj hc (by omega) (by omega) (he ▸ he')), rfl⟩
    · exact absurd he.symm (hnew lane lane' k' x hi hx' hkL')
    · exact absurd he'.symm (hnew lane' lane k x hi' hx hkL)
    · obtain ⟨rfl, rfl⟩ := hu _ _ _ _ x hx hx'
      exact ⟨rfl, rfl⟩

theorem State.shiftsTrack.geometryInv {s t : State} (h : s.shiftsTrack t) (hg : s.geometryInv) :
    t.geometryInv := by
  obtain ⟨now, hk⟩ := h.kept
  exact hk.geometryInv (State.shifted_geometryInv hg now)

theorem State.shiftsTrack.serialInv {s t : State} (h : s.shiftsTrack t) (hg : s.geometryInv) (hs : s.serialInv) :
    t.serialInv := by
  obtain ⟨now, hk⟩ := h.kept
  exact hk.serialInv (State.shifted_serialInv hg hs now)

/-- The index aborted the stroke, so no lane has a captured serial. -/
theorem State.shiftsTrack.captureInv {s t : State} (h : s.shiftsTrack t) : t.captureInv := by
  rw [State.captureInv_iff]
  intro n x hn
  simp [h.idle n] at hn

/-! ## What index work makes of the records

The Verdict Unit's work at an index is one map over the shifted rows, and the abort of a stroke another. -/

/-- R38: one station's part of `Product.brought`: LATE where its window closes on a NONE field. -/
def Product.closeAt (m : StationMap) (st : PortStation) (slot : Nat) (p : Product) : Product :=
  if (m.entry st).enabled ∧ slot = (m.entry st).slot + (m.entry st).window ∧ p.unwritten st then p.makeLate st else p

/-- R51: the CARD part of `Product.brought`. -/
def Product.sampleAt (m : StationMap) (high : Bool) (slot : Nat) (p : Product) : Product :=
  if m.card.enabled ∧ slot = m.card.slot ∧ p.card = .none then
    { p with card := if high then .present else .missing }
  else p

/-- The five stations touch five fields, so the order of their work does not show. -/
theorem Product.brought_eq (m : StationMap) (high : Bool) (slot : Nat) (p : Product) :
    Product.brought m high slot p =
      ((((p.closeAt m .form slot).closeAt m .load slot).closeAt m .inspect slot).closeAt m .aux slot).sampleAt
        m high slot := by
  have hclose :
      (∀ p : Product, p.closeAt m .form slot =
        { p with form := if m.form.enabled ∧ slot = m.form.slot + m.form.window ∧ p.form = .none then .late
                 else p.form }) ∧
      (∀ p : Product, p.closeAt m .load slot =
        { p with load := if m.load.enabled ∧ slot = m.load.slot + m.load.window ∧ p.load = .none then .late
                 else p.load }) ∧
      (∀ p : Product, p.closeAt m .inspect slot =
        { p with inspect :=
                  if m.inspect.enabled ∧ slot = m.inspect.slot + m.inspect.window ∧ p.inspect = .none then .late
                  else p.inspect }) ∧
      ∀ p : Product, p.closeAt m .aux slot =
        { p with aux := if m.aux.enabled ∧ slot = m.aux.slot + m.aux.window ∧ p.aux = .none then .late
                 else p.aux } := by
    refine ⟨fun p => ?_, fun p => ?_, fun p => ?_, fun p => ?_⟩ <;>
      simp only [Product.closeAt, StationMap.entry, Product.unwritten, Product.makeLate, beq_iff_eq] <;>
      split <;> rfl
  obtain ⟨hf, hl, hi, ha⟩ := hclose
  have hc (p : Product) : p.sampleAt m high slot =
      { p with card := if m.card.enabled ∧ slot = m.card.slot ∧ p.card = .none then
                  (if high then .present else .missing) else p.card } := by
    simp only [Product.sampleAt]
    split <;> rfl
  rw [hc, ha, hi, hl, hf]
  rfl

@[simp] theorem Record.onProduct_onProduct (f g : Product → Product) (r : Record) :
    (r.onProduct f).onProduct g = r.onProduct fun p => g (f p) := by
  cases r <;> rfl

@[simp] theorem Record.onProduct_id (r : Record) : (r.onProduct fun p => p) = r := by
  cases r <;> rfl

/-- A change at one slot, made where a condition says so, seen from every slot. -/
theorem modify_eq_mapIdx {α : Type} (row : List α) (i : Nat) (f : α → α) :
    row.modify i f = row.mapIdx fun slot r => if slot = i then f r else r := by
  apply List.ext_getElem?
  intro slot
  simp only [List.getElem?_modify, List.getElem?_mapIdx, eq_comm (a := i)]
  cases row[slot]? <;> rfl

theorem mapIdx_self {α : Type} (row : List α) : row.mapIdx (fun _ r => r) = row := by
  apply List.ext_getElem?
  intro slot
  simp

/-- R38: a station's windows closed over one lane's records. -/
def StationMap.closeRow (m : StationMap) (st : PortStation) (row : List Record) : List Record :=
  row.mapIdx fun slot r => r.onProduct (Product.closeAt m st slot)

/-- R51: the CARD level taken over one lane's records. -/
def StationMap.sampleRow (m : StationMap) (high : Bool) (row : List Record) : List Record :=
  row.mapIdx fun slot r => r.onProduct (Product.sampleAt m high slot)

theorem StationMap.closeRow_eq (m : StationMap) (st : PortStation) (row : List Record) :
    m.closeRow st row =
      if (m.entry st).enabled then row.modify ((m.entry st).slot + (m.entry st).window) (Record.close st) else row := by
  unfold StationMap.closeRow Product.closeAt
  by_cases he : (m.entry st).enabled = true
  · rw [if_pos he, modify_eq_mapIdx]
    congr 1
    funext slot r
    by_cases hs : slot = (m.entry st).slot + (m.entry st).window <;> simp [Record.close, he, hs]
  · simp [he, mapIdx_self]

theorem StationMap.sampleRow_eq (m : StationMap) (high : Bool) (row : List Record) :
    m.sampleRow high row = if m.card.enabled then row.modify m.card.slot (Record.sampleCard high) else row := by
  unfold StationMap.sampleRow Product.sampleAt
  by_cases he : m.card.enabled = true
  · rw [if_pos he, modify_eq_mapIdx]
    congr 1
    funext slot r
    by_cases hs : slot = m.card.slot
    · simp only [he, hs, true_and, if_true]
      rfl
    · simp [hs]
  · simp [he, mapIdx_self]

theorem State.closeWindow_eq (s : State) (st : PortStation) :
    s.closeWindow st =
      (s.setRows (s.web.rows.map (s.verdict.stations.closeRow st))).setEvents (s.closeWindow st).events := by
  have hrow : s.verdict.stations.closeRow st = _ := funext (StationMap.closeRow_eq _ st)
  rw [hrow]
  unfold State.closeWindow
  by_cases he : (s.verdict.stations.entry st).enabled = true
  · simp only [he, if_true]
    split
    · exact State.raiseAt_eq _ _ _
    · rfl
  · simp only [he, Bool.false_eq_true, if_false]
    rfl

theorem State.arrive_eq (s : State) (st : PortStation) : s.arrive st = s.setEvents (s.arrive st).events := by
  unfold State.arrive
  simp only []
  split
  · exact State.raiseAt_eq _ _ _
  · rfl

theorem State.sampleCards_eq (s : State) (cards : Quad Bool) :
    s.sampleCards cards = s.setRows (Quad.zipWith (fun high => s.verdict.stations.sampleRow high) cards s.web.rows) := by
  have hrow : (fun high => s.verdict.stations.sampleRow high) = _ :=
    funext fun high => funext (StationMap.sampleRow_eq _ high)
  rw [hrow]
  unfold State.sampleCards
  by_cases he : s.verdict.stations.card.enabled = true
  · simp only [he, if_true]
  · simp only [he, Bool.false_eq_true, if_false]
    rfl

/-- R38, R51: the rows after the Verdict Unit's index work. -/
def State.broughtRows (s : State) (cards : Quad Bool) : Quad (List Record) :=
  Quad.ofFn fun lane => (s.web.rows.get lane).mapIdx fun slot r =>
    r.onProduct (Product.brought s.verdict.stations (cards.get lane) slot)

/-- R37: the Verdict Unit's work at an index, in the rows and the events alone. -/
theorem State.verdictIndex_eq (s : State) (cards : Quad Bool) :
    s.verdictIndex cards = (s.setRows (s.broughtRows cards)).setEvents (s.verdictIndex cards).events := by
  have hrows : s.broughtRows cards =
      Quad.zipWith (fun high => s.verdict.stations.sampleRow high) cards
        ((((s.web.rows.map (s.verdict.stations.closeRow .form)).map (s.verdict.stations.closeRow .load)).map
          (s.verdict.stations.closeRow .inspect)).map (s.verdict.stations.closeRow .aux)) := by
    apply Quad.ext_get
    intro lane
    simp only [State.broughtRows, Quad.get_ofFn, Quad.get_zipWith, Quad.get_map, StationMap.closeRow,
      StationMap.sampleRow, List.mapIdx_mapIdx]
    congr 1
    funext slot r
    simp only [Function.comp, Record.onProduct_onProduct]
    congr 1
    exact funext (Product.brought_eq _ _ _)
  rw [hrows]
  simp only [State.verdictIndex, portStations, List.foldl_cons, List.foldl_nil]
  rw [State.sampleCards_eq, State.arrive_eq, State.arrive_eq, State.arrive_eq, State.arrive_eq,
    State.closeWindow_eq, State.closeWindow_eq, State.closeWindow_eq, State.closeWindow_eq]
  rfl

/-! ## What each operation does to the track -/

/-- From `t` to `u` the Web Track, the stations, the Stroke Evaluator and the write engine stay as they are. -/
structure State.leavesTrack (t u : State) : Prop where
  web : u.web = t.web
  stations : u.verdict.stations = t.verdict.stations
  stroke : u.stroke = t.stroke
  engine : u.store.engine = t.store.engine

theorem State.leavesTrack.refl (s : State) : s.leavesTrack s := ⟨rfl, rfl, rfl, rfl⟩

theorem State.leavesTrack.trans {s t u : State} (h : s.leavesTrack t) (h' : t.leavesTrack u) : s.leavesTrack u :=
  ⟨h'.web.trans h.web, h'.stations.trans h.stations, h'.stroke.trans h.stroke, h'.engine.trans h.engine⟩

theorem State.leavesTrack.captured {t u : State} (h : t.leavesTrack u) (n : Lane) : u.captured n = t.captured n := by
  rw [State.captured, State.captured, h.stroke]

theorem State.leavesTrack.engineChecked {t u : State} (h : t.leavesTrack u) (he : t.store.engineChecked) :
    u.store.engineChecked := by
  rwa [RecipeStore.engineChecked, h.engine]

theorem State.leavesTrack.keeps {s t : State} (h : s.leavesTrack t) : s.keepsTrack t :=
  ⟨by rw [h.web], by rw [h.web], by rw [h.web], by rw [h.web]; exact .refl _, h.stations,
    fun n x hx => by rwa [h.captured] at hx, h.engineChecked⟩

theorem State.losesTrack.trans_leaves {s t u : State} (h : s.losesTrack t) (h' : t.leavesTrack u) :
    s.losesTrack u := by
  refine ⟨by rw [h'.web, h.rows], fun hg => ?_, ?_⟩
  · obtain ⟨hr, hp, he⟩ := h.geometry hg
    rw [h'.web, h'.stations]
    exact ⟨hr, hp, h'.engineChecked he⟩
  · rw [h'.web]
    simp only [h'.captured]
    exact h.numbering

theorem State.leavesTrack.foldl {α : Type} {f : State → α → State} (h : ∀ (s : State) a, s.leavesTrack (f s a)) (l : List α)
    (s : State) : s.leavesTrack (l.foldl f s) := by
  induction l generalizing s with
  | nil => exact .refl s
  | cons a l ih => exact (h s a).trans (ih (f s a))

section
variable (s : State)

theorem State.setEvents_leaves (e : Quad PortEvents) : s.leavesTrack (s.setEvents e) := ⟨rfl, rfl, rfl, rfl⟩

theorem State.setPorts_leaves (q : Quad StationPort) : s.leavesTrack (s.setPorts q) := ⟨rfl, rfl, rfl, rfl⟩

theorem State.setAcq_leaves (a : Acquisition) : s.leavesTrack (s.setAcq a) := ⟨rfl, rfl, rfl, rfl⟩

theorem State.setGate_leaves (g : Gate) : s.leavesTrack (s.setGate g) := ⟨rfl, rfl, rfl, rfl⟩

theorem State.setMode_leaves (m : ModeController) : s.leavesTrack (s.setMode m) := ⟨rfl, rfl, rfl, rfl⟩

theorem State.raiseAll_leaves (f : EventFlag) : s.leavesTrack (s.raiseAll f) := ⟨rfl, rfl, rfl, rfl⟩

theorem State.changeMode_leaves (m : Mode) : s.leavesTrack (s.changeMode m) := ⟨rfl, rfl, rfl, rfl⟩

theorem State.raiseAt_leaves (p : Option Port) (f : EventFlag) : s.leavesTrack (s.raiseAt p f) := by
  rw [State.raiseAt_eq]
  exact s.setEvents_leaves _

theorem State.evaluateLane_leaves (added : Bool) (lane : Lane) : s.leavesTrack (s.evaluateLane added lane) := by
  rw [State.evaluateLane_eq]
  exact ⟨rfl, rfl, rfl, rfl⟩

theorem State.evaluateLanes_leaves (before : Nat) : s.leavesTrack (s.evaluateLanes before) :=
  State.leavesTrack.foldl (fun s n => s.evaluateLane_leaves _ n) _ s

theorem State.idlePass_leaves (temps : Quad RawCode) : s.leavesTrack (s.idlePass temps) :=
  State.leavesTrack.foldl (fun s n => (s.setAcq_leaves _).trans (State.evaluateLane_leaves _ false n)) _ s

theorem State.drainCheck_leaves : s.leavesTrack s.drainCheck := by
  obtain ⟨-, -, h⟩ | ⟨-, h⟩ := s.drainCheck_cases <;> rw [h]
  · exact s.changeMode_leaves _
  · exact .refl s

theorem State.decideLane_leaves (now : Time) (lane : Lane) : s.leavesTrack (s.decideLane now lane) := by
  unfold State.decideLane
  split
  · exact .refl s
  · exact s.setGate_leaves _

theorem State.gateIndex_leaves (now : Time) : s.leavesTrack (s.gateIndex now) :=
  ((s.setGate_leaves _).trans (State.leavesTrack.foldl (fun s n => s.decideLane_leaves now n) _ _)).trans
    (State.raiseAt_leaves _ _ _)

theorem State.expirePulse_leaves (now : Time) (lane : Lane) : s.leavesTrack (s.expirePulse now lane) := by
  unfold State.expirePulse
  split
  · split
    · exact s.setGate_leaves _
    · exact .refl s
  · exact .refl s

end

/-! ### Records rewritten in place -/

theorem map_identity_modify {f : Record → Record} (h : ∀ r, (f r).identity = r.identity) (row : List Record)
    (slot : Nat) : (row.modify slot f).map Record.identity = row.map Record.identity := by
  apply List.ext_getElem?
  intro i
  simp only [List.getElem?_map, List.getElem?_modify]
  cases row[i]? with
  | none => rfl
  | some r => by_cases hi : slot = i <;> simp [hi, h]

theorem map_identity_mapIdx {f : Nat → Record → Record} (h : ∀ i r, (f i r).identity = r.identity)
    (row : List Record) : (row.mapIdx f).map Record.identity = row.map Record.identity := by
  apply List.ext_getElem?
  intro i
  simp only [List.getElem?_map, List.getElem?_mapIdx]
  cases row[i]? <;> simp [h]

/-- R3: a change that keeps Serial and Recipe, made to one record, keeps every identity. -/
theorem changeAt_sameIdentities {f : Product → Product} (h : ∀ p, (f p).serial = p.serial ∧ (f p).recipe = p.recipe)
    (rows : Quad (List Record)) (lane : Lane) (slot : Nat) : sameIdentities rows (changeAt rows lane slot f) := by
  intro i
  rw [changeAt, Quad.get_set]
  split
  · rename_i hi
    subst hi
    exact map_identity_modify (Record.onProduct_identity f h) _ _
  · rfl

theorem changeSerial_sameIdentities {f : Product → Product}
    (h : ∀ p, (f p).serial = p.serial ∧ (f p).recipe = p.recipe) (rows : Quad (List Record)) (n : Serial) :
    sameIdentities rows (changeSerial rows n f) := by
  unfold changeSerial
  split
  · exact changeAt_sameIdentities h rows _ _
  · exact .refl rows

theorem writeTarget_sameIdentities (rows : Quad (List Record)) (l : StrokeLane) (v : ReportVerdict) :
    sameIdentities rows (writeTarget rows l v) := by
  unfold writeTarget
  split
  · refine changeSerial_sameIdentities (fun _ => ?_) rows _
    exact ⟨rfl, rfl⟩
  · exact .refl rows

theorem Stroke.writeTargets_sameIdentities (k : Stroke) (verdict : StrokeLane → ReportVerdict)
    (rows : Quad (List Record)) : sameIdentities rows (k.writeTargets verdict rows) := by
  unfold Stroke.writeTargets
  generalize k.lanes.take k.laneCount = l
  induction l generalizing rows with
  | nil => exact .refl rows
  | cons a l ih => exact (writeTarget_sameIdentities rows a _).trans (ih _)

theorem State.setRows_keeps {s : State} {rows : Quad (List Record)} (h : sameIdentities s.web.rows rows) :
    s.keepsTrack (s.setRows rows) := ⟨rfl, rfl, rfl, h, rfl, fun _ _ hx => hx, id⟩

theorem State.broughtRows_sameIdentities (s : State) (cards : Quad Bool) :
    sameIdentities s.web.rows (s.broughtRows cards) := by
  intro lane
  rw [State.broughtRows, Quad.get_ofFn]
  refine map_identity_mapIdx (fun _ r => Record.onProduct_identity _ (fun _ => ?_) r) _
  exact ⟨rfl, rfl⟩

theorem State.verdictIndex_keeps (s : State) (cards : Quad Bool) : s.keepsTrack (s.verdictIndex cards) := by
  rw [State.verdictIndex_eq]
  exact (State.setRows_keeps (s.broughtRows_sameIdentities cards)).trans (State.setEvents_leaves _ _).keeps

/-! ### Strokes -/

theorem State.captured_of_stroke? {s : State} (h : s.stroke.phase.stroke? = none) (n : Lane) :
    s.captured n = none := by
  simp [State.captured, h]

/-- The end of a stroke writes verdicts into records and leaves no stroke in flight (R95, R98, R101). -/
theorem State.endStroke_keeps (s : State) (now : Time) (k : Stroke) (kind : EndKind)
    (verdict : StrokeLane → ReportVerdict) :
    s.keepsTrack (s.endStroke now k kind verdict) ∧ ∀ n, (s.endStroke now k kind verdict).captured n = none := by
  rw [State.endStroke_eq]
  refine ⟨⟨rfl, rfl, rfl, k.writeTargets_sameIdentities verdict s.web.rows, rfl, fun n x hx => ?_, id⟩, fun _ => rfl⟩
  simp [State.captured, StrokePhase.stroke?] at hx

theorem State.completeStroke_keeps (s : State) (now : Time) : s.keepsTrack (s.completeStroke now) := by
  unfold State.completeStroke
  split
  · exact (s.endStroke_keeps ..).1
  · exact .refl s

theorem State.abortStroke_keeps (s : State) (now : Time) :
    s.keepsTrack (s.abortStroke now) ∧ ∀ n, (s.abortStroke now).captured n = none := by
  unfold State.abortStroke
  split
  · exact s.endStroke_keeps ..
  · rename_i h
    exact ⟨.refl s, State.captured_of_stroke? h⟩

/-- A change within the stroke in flight that captures nothing new. -/
theorem State.setStroke_keeps {s : State} {e : StrokeEvaluator}
    (h : ∀ k', e.phase.stroke? = some k' → ∃ k, s.stroke.phase.stroke? = some k ∧
      ∀ n, (k'.lanes.get n).serial = (k.lanes.get n).serial) :
    s.keepsTrack (s.setStroke e) := by
  refine ⟨rfl, rfl, rfl, .refl _, rfl, fun n x hx => ?_, id⟩
  obtain ⟨k', hk', hx⟩ := State.captured_eq_some.mp hx
  obtain ⟨k, hk, hl⟩ := h k' hk'
  exact State.captured_eq_some.mpr ⟨k, hk, hl n ▸ hx⟩

@[simp] theorem StrokeLane.addRound_serial (l : StrokeLane) (press temp : Option Nat) :
    (l.addRound press temp).serial = l.serial := by
  unfold StrokeLane.addRound
  split
  · rfl
  · split
    · simp only []
      split <;> rfl
    · rfl

theorem capOrContinue_stroke? {due : Time} {k k' : Stroke} (h : (capOrContinue due k).stroke? = some k') :
    k'.lanes = k.lanes := by
  unfold capOrContinue at h
  split at h <;> cases h <;> rfl

theorem State.strokeRound_keeps {s : State} {due : Time} {k : Stroke} (h : s.stroke.phase = .sampling due k)
    (press : RawCode) (temps : Quad RawCode) : s.keepsTrack (s.strokeRound due k press temps) := by
  refine (s.setAcq_leaves _).keeps.trans (State.setStroke_keeps fun k' hk' => ⟨k, ?_, fun n => ?_⟩)
  · rw [State.setAcq_stroke, h]
    rfl
  · rw [capOrContinue_stroke? hk']
    simp [Stroke.addRound]

theorem State.serialAt_sealProduct {s : State} {n : Lane} {p : Product} (h : s.sealProduct n = some p) :
    s.verdict.stations.heatSeal.enabled = true ∧
      s.serialAt n s.verdict.stations.heatSeal.slot = some p.serial := by
  simp only [State.sealProduct] at h
  split at h
  · rename_i he
    obtain ⟨r, hr, hp⟩ := Option.bind_eq_some_iff.mp h
    exact ⟨he, State.serialAt_eq_some.mpr ⟨p, Record.product?_eq_some.mp hp ▸ hr, rfl⟩⟩
  · cases h

/-- R83: a lane captures a serial only from the PRODUCT record at its SEAL slot. -/
theorem State.captureLane_serial {s : State} {n : Lane} {x : Serial} (h : (s.captureLane n).serial = some x) :
    ∃ p, s.sealProduct n = some p ∧ p.serial = x := by
  unfold State.captureLane at h
  split at h
  · rename_i p hp
    exact ⟨p, hp, Option.some.inj h⟩
  · cases h

theorem State.startStroke_starts (s : State) (now : Time) (ref : RawCode) :
    s.startsStroke (s.startStroke now ref) := by
  refine ⟨rfl, rfl, rfl, fun n x hx => ?_⟩
  obtain ⟨k, hk, hx⟩ := State.captured_eq_some.mp hx
  cases hk
  simp only [Quad.get_ofFn] at hx
  split at hx
  · rename_i hn
    obtain ⟨p, hp, rfl⟩ := State.captureLane_serial hx
    exact ⟨hn, State.serialAt_sealProduct hp⟩
  · cases hx

/-! ### Configurations -/

/-- R33, R154, R155: the geometry lies in its ranges and the enabled stations fit on it. -/
def Configuration.fits (c : Configuration) : Prop :=
  (1 ≤ c.lanes ∧ c.lanes ≤ 4 ∧ 8 ≤ c.length ∧ c.length ≤ 48) ∧ c.stations.placed c.length

theorem firstFailing_eq_none {l : List Bool} : firstFailing l = none ↔ ∀ b ∈ l, b = true := by
  induction l with
  | nil => simp [firstFailing]
  | cons b l ih => cases b <;> simp [firstFailing, ih]

theorem stationEntryOf_enabled {e : StationWire} (h : (stationEntryOf e).enabled = true) : e.enabled.toNat = 1 := by
  have he : e.enabled = 1 := by simpa [stationEntryOf] using h
  rw [he]
  rfl

theorem windowedEntryOk_placed {length : Nat} {e : StationWire} (h : windowedEntryOk length e = true)
    (he : (stationEntryOf e).enabled = true) :
    1 ≤ (stationEntryOf e).window ∧ (stationEntryOf e).slot + (stationEntryOf e).window + 2 ≤ length := by
  have h1 := stationEntryOf_enabled he
  simp [windowedEntryOk, within, h1] at h
  obtain ⟨⟨⟨-, hwindow, -⟩, -⟩, hfit⟩ := h
  exact ⟨hwindow, hfit⟩

theorem cardEntryOk_placed {length : Nat} {e : StationWire} (h : cardEntryOk length e = true)
    (he : (stationEntryOf e).enabled = true) : (stationEntryOf e).slot + 2 ≤ length := by
  have h1 := stationEntryOf_enabled he
  simp [cardEntryOk, h1] at h
  exact h.2

theorem sealEntryOk_placed {length : Nat} {e : StationWire} (h : sealEntryOk length e = true)
    (he : (stationEntryOf e).enabled = true) : (stationEntryOf e).slot + 3 ≤ length := by
  have h1 := stationEntryOf_enabled he
  simp [sealEntryOk, h1] at h
  exact h.2

/-- R154, R155: what a configuration that passes its checks brings into force fits. -/
theorem configurationOf_fits {c : ConfigWire} (h : configFault c = none) : (configurationOf c).fits := by
  rw [configFault, firstFailing_eq_none] at h
  simp only [configChecks, List.forall_mem_cons] at h
  obtain ⟨hN, hL, -, -, hform, hload, hcard, hseal, hinspect, haux, -⟩ := h
  simp only [within, Bool.and_eq_true, decide_eq_true_eq] at hN hL
  refine ⟨⟨hN.1, hN.2, hL.1, hL.2⟩, fun st he => ?_, fun he => cardEntryOk_placed hcard he,
    fun he => sealEntryOk_placed hseal he⟩
  cases st with
  | form => exact windowedEntryOk_placed hform he
  | load => exact windowedEntryOk_placed hload he
  | inspect => exact windowedEntryOk_placed hinspect he
  | aux => exact windowedEntryOk_placed haux he

/-- R157: the factory default settings fit. -/
theorem factoryDefault_fits : factoryDefault.fits := by
  refine ⟨by decide, fun st he => ?_, by decide, by decide⟩
  cases st <;> revert he <;> decide

/-- R159: what a reset supplies fits, whatever the store holds. -/
theorem RecipeStore.supplied_fits (r : RecipeStore) : r.supplied.fits := by
  obtain ⟨w, -, hf, h⟩ | ⟨-, h⟩ := (RecipeStore.supplies_iff r r.supplied).mpr rfl <;> rw [h]
  · exact configurationOf_fits hf
  · exact factoryDefault_fits

/-! ### Track losses -/

/-- R22, R148: a track loss at the geometry in force. -/
theorem State.loseTrack_loses (s : State) : s.losesTrack s.loseTrack := by
  refine ⟨rfl, ?_, .inl ⟨rfl, fun _ _ h => h⟩⟩
  rintro ⟨⟨h1, h2, h3, h4, -⟩, hp, he⟩
  exact ⟨⟨h1, h2, h3, h4⟩, hp, he⟩

/-- R23, R156: fitting settings loaded, and the track lost at their geometry. -/
theorem State.keepsTrack.loadSettings_loses {s u : State} {c : Configuration} (hk : s.keepsTrack u)
    (h : s.store.engineChecked → c.fits) : s.losesTrack ((u.loadSettings c).loseTrackAt c.lanes c.length) := by
  refine ⟨rfl, ?_, .inl ⟨hk.nextSerial, hk.captured⟩⟩
  rintro ⟨-, -, he⟩
  obtain ⟨hr, hp⟩ := h he
  exact ⟨hr, hp, hk.engine he⟩

/-- R31: every reset loses the track at the geometry supplied, and drops a write in flight (R167). -/
theorem State.afterReset_loses (s : State) (keep : Bool) (wake : Option Wake) :
    s.losesTrack (s.afterReset keep wake) := by
  refine ⟨rfl, fun _ => ?_, ?_⟩
  · obtain ⟨hr, hp⟩ := s.store.supplied_fits
    exact ⟨hr, hp, nofun⟩
  · cases keep with
    | true => exact .inl ⟨rfl, nofun⟩
    | false => exact .inr ⟨rfl, fun _ => rfl⟩

theorem State.assertReset_loses (s : State) : s.losesTrack s.assertReset :=
  (s.afterReset_loses false none).trans_leaves ⟨rfl, rfl, rfl, rfl⟩

theorem State.releaseReset_track (s : State) (now : Time) :
    s.keepsTrack (s.releaseReset now) ∨ s.losesTrack (s.releaseReset now) := by
  unfold State.releaseReset
  split
  · exact .inr ((s.afterReset_loses false (some (resetWake now))).trans_leaves ⟨rfl, rfl, rfl, rfl⟩)
  · exact .inl (.refl s)

/-! ### The write engine and the self-check -/

/-- A change of the write engine that leaves a checked write or none. -/
theorem State.setStore_keeps {s : State} {r : RecipeStore} (h : s.store.engineChecked → r.engineChecked) :
    s.keepsTrack (s.setStore r) := ⟨rfl, rfl, rfl, .refl _, rfl, fun _ _ hx => hx, h⟩

theorem RecipeStore.engineChecked_of_idle {r : RecipeStore} (h : r.engine = none) : r.engineChecked := by
  intro w hw
  simp [h] at hw

/-- The contents of a write have passed their checks (R162, R164). -/
def WriteTarget.checked : WriteTarget → Prop
  | .configuration c => configFault c = none
  | .recipe _ c => recipeFault c = none

theorem RecipeStore.engineChecked_iff (r : RecipeStore) :
    r.engineChecked ↔ ∀ w, r.engine = some w → w.target.checked := by
  refine forall_congr' fun w => imp_congr_right fun _ => ?_
  cases w.target <;> rfl

@[simp] theorem RecipeStore.complete_engine (r : RecipeStore) (target : WriteTarget) :
    (r.complete target).engine = none := by
  cases target <;> rfl

@[simp] theorem RecipeStore.abandon_engine (r : RecipeStore) (target : WriteTarget) :
    (r.abandon target).engine = none := by
  cases target <;> rfl

theorem State.storeDone_leaves (s : State) (p : Port) (r : StoreResult) : s.leavesTrack (s.storeDone p r) :=
  ⟨rfl, rfl, rfl, rfl⟩

theorem State.takeEffect_leaves (s : State) (c : Configuration) :
    ((s.loadSettings c).loseTrackAt c.lanes c.length).leavesTrack (s.takeEffect c) :=
  ((State.setAcq_leaves _ _).trans (State.setMode_leaves _ _)).trans (State.evaluateLanes_leaves _ _)

/-- R165, R168: a write of a recipe keeps the track, a write of a configuration loses it at checked settings. -/
theorem State.completeWrite_track {s : State} {w : StoreWrite} (h : s.store.engine = some w) :
    s.keepsTrack (s.completeWrite w) ∨ s.losesTrack (s.completeWrite w) := by
  have hk : s.keepsTrack ((s.setStore (s.store.complete w.target)).storeDone w.port .ok) :=
    (State.setStore_keeps fun _ => RecipeStore.engineChecked_of_idle (by simp)).trans (State.storeDone_leaves _ _ _).keeps
  unfold State.completeWrite
  rcases ht : w.target with c | ⟨slot, c⟩ <;> rw [ht] at hk
  · refine .inr ((hk.loadSettings_loses fun he => configurationOf_fits ?_).trans_leaves (State.takeEffect_leaves _ _))
    have hc := (RecipeStore.engineChecked_iff _).mp he w h
    rwa [ht] at hc
  · exact .inl hk

theorem State.abandonWrite_keeps (s : State) (w : StoreWrite) : s.keepsTrack (s.abandonWrite w) := by
  have hk : s.keepsTrack ((s.setStore (s.store.abandon w.target)).storeDone w.port .timeout) :=
    (State.setStore_keeps fun _ => RecipeStore.engineChecked_of_idle (by simp)).trans (State.storeDone_leaves _ _ _).keeps
  unfold State.abandonWrite
  rcases ht : w.target with c | ⟨slot, c⟩ <;> rw [ht] at hk
  · exact hk.trans (State.setMode_leaves _ _).keeps
  · exact hk

theorem State.storeCompletion_track (s : State) (now accepted : Time) :
    s.keepsTrack (s.storeCompletion now accepted) ∨ s.losesTrack (s.storeCompletion now accepted) := by
  unfold State.storeCompletion
  split
  · rename_i w hw
    split
    · exact State.completeWrite_track hw
    · exact .inl (.refl s)
  · exact .inl (.refl s)

theorem State.storeDeadline_keeps (s : State) (now : Time) : s.keepsTrack (s.storeDeadline now) := by
  unfold State.storeDeadline
  split
  · split
    · exact s.abandonWrite_keeps _
    · exact .refl s
  · exact .refl s

/-- R137: the turn to the factory default settings loses the track at their geometry. -/
theorem State.keepsTrack.factoryTurn_loses {s u : State} (h : s.keepsTrack u) : s.losesTrack u.factoryTurn :=
  (h.loadSettings_loses fun _ => factoryDefault_fits).trans_leaves ⟨rfl, rfl, rfl, rfl⟩

/-- R136, R137: a self-check keeps the track when the configuration is VALID, and loses it otherwise. -/
theorem State.completeSelfCheck_track (s : State) (now : Time) (w : Wake) (ref : RawCode) :
    s.keepsTrack (s.completeSelfCheck now w ref) ∨ s.losesTrack (s.completeSelfCheck now w ref) := by
  have hk : s.keepsTrack (s.setStore s.store.verifyAll) := State.setStore_keeps id
  have hrest (u : State) (m : ModeController) (before : Nat) :
      u.leavesTrack (((((u.judgeReference ref .wake).setMode m).evaluateLanes before).startIdle now).raiseAll
        (wakeFlag w.origin)) :=
    ((((State.setAcq_leaves _ _).trans (State.setMode_leaves _ _)).trans (State.evaluateLanes_leaves _ _)).trans
      (State.setAcq_leaves _ _)).trans (State.raiseAll_leaves _ _)
  simp only [State.completeSelfCheck]
  split
  · exact .inl (hk.trans (hrest _ _ _).keeps)
  · exact .inr (hk.factoryTurn_loses.trans_leaves (hrest _ _ _))

theorem State.selfCheckExpiry_track (s : State) (now : Time) (ref : RawCode) :
    s.keepsTrack (s.selfCheckExpiry now ref) ∨ s.losesTrack (s.selfCheckExpiry now ref) := by
  unfold State.selfCheckExpiry
  split
  · split
    · exact s.completeSelfCheck_track ..
    · exact .inl (.refl s)
  · exact .inl (.refl s)

/-- R161: a write of checked contents accepted. -/
theorem State.acceptWrite_keeps (s : State) (now : Time) (port : Port) {target : WriteTarget}
    (h : target.checked) : s.keepsTrack (s.acceptWrite now port target) := by
  refine State.setStore_keeps fun _ => (RecipeStore.engineChecked_iff _).mpr fun w hw => ?_
  cases hw
  exact h

/-! ### Requests -/

section
variable (s : State)

theorem State.enterStandby_keeps (now : Time) : s.keepsTrack (s.enterStandby now) :=
  ((s.changeMode_leaves _).keeps.trans (State.abortStroke_keeps _ now).1).trans
    ((State.setAcq_leaves _ _).trans (State.evaluateLanes_leaves _ _)).keeps

theorem takeEnterStandby_keeps (now : Time) : s.keepsTrack (takeEnterStandby now s).1 := by
  have h : s.keepsTrack
      (if s.store.engine.isSome then (s, Reply.refuse .busy) else withMode (s.enterStandby now)).1 := by
    split
    · exact .refl s
    · exact s.enterStandby_keeps now
  unfold takeEnterStandby
  split
  · exact .refl s
  · exact .refl s
  all_goals exact h

theorem takeLeaveStandby_leaves (now : Time) : s.leavesTrack (takeLeaveStandby now s).1 := by
  unfold takeLeaveStandby
  split
  case h_2 =>
    split
    · exact .refl s
    · exact (s.changeMode_leaves _).trans (State.setMode_leaves _ _)
  all_goals exact .refl s

theorem takeStart_leaves : s.leavesTrack (takeStart s).1 := by
  unfold takeStart
  split
  case h_3 =>
    split
    · exact .refl s
    · exact s.changeMode_leaves _
  case h_5 => exact s.changeMode_leaves _
  all_goals exact .refl s

theorem takeStop_leaves : s.leavesTrack (takeStop s).1 := by
  unfold takeStop
  split
  case h_4 => exact (s.changeMode_leaves _).trans (State.drainCheck_leaves _)
  all_goals exact .refl s

theorem takeDeclareWebBreak_track :
    s.keepsTrack (takeDeclareWebBreak s).1 ∨ s.losesTrack (takeDeclareWebBreak s).1 := by
  unfold takeDeclareWebBreak
  split
  · exact .inl (.refl s)
  · exact .inr s.loseTrack_loses
  · exact .inr s.loseTrack_loses
  · exact .inr (s.loseTrack_loses.trans_leaves (State.changeMode_leaves _ _))
  · exact .inr (s.loseTrack_loses.trans_leaves (State.changeMode_leaves _ _))

theorem takeSetLaneMask_leaves (set : Byte) : s.leavesTrack (takeSetLaneMask set s).1 := by
  unfold takeSetLaneMask
  split
  · exact .refl s
  · exact .refl s
  · split
    · exact .refl s
    · exact s.setMode_leaves _

theorem takeSetLaneRecipe_leaves (lane presence slot : Byte) :
    s.leavesTrack (takeSetLaneRecipe lane presence slot s).1 := by
  unfold takeSetLaneRecipe
  split
  · exact .refl s
  · exact .refl s
  · split
    · exact .refl s
    · split
      · exact .refl s
      · exact (s.setMode_leaves _).trans (State.evaluateLane_leaves _ _ _)

theorem Product.post_identity (p : Product) (recipe : Option Recipe) (st : PortStation) (value detail : Byte) :
    (p.post recipe st value detail).serial = p.serial ∧ (p.post recipe st value detail).recipe = p.recipe := by
  cases st <;> exact ⟨rfl, rfl⟩

theorem takePostVerdict_keeps (port : Port) (station lane : Byte) (serial : Serial) (value detail : Byte) :
    s.keepsTrack (takePostVerdict port station lane serial value detail s).1 := by
  have h (st : PortStation) (n : Lane) (slot : Nat) (p : Product) :
      s.keepsTrack (postRecord s st n slot p value detail).1 := by
    simp only [postRecord]
    split
    · exact .refl s
    · split
      · exact .refl s
      · split
        · exact .refl s
        · exact State.setRows_keeps (changeAt_sameIdentities (fun q => q.post_identity _ _ _ _) _ _ _)
  unfold takePostVerdict
  repeat' split
  any_goals exact .refl s
  exact h _ _ _ _

theorem holdRequest_keeps (port : Port) (lane : Byte) (serial : Serial) {act : Lane → Nat → Product → State × Reply}
    (h : ∀ n slot p, s.keepsTrack (act n slot p).1) : s.keepsTrack (holdRequest port lane serial s act).1 := by
  unfold holdRequest
  repeat' split
  any_goals exact .refl s
  exact h _ _ _

theorem setHold_sameIdentities (rows : Quad (List Record)) (n : Lane) (slot : Nat) (hold : Option Port) :
    sameIdentities rows (changeAt rows n slot fun q => { q with hold := hold }) := by
  refine changeAt_sameIdentities (fun q => ?_) rows n slot
  exact ⟨rfl, rfl⟩

theorem takeSetHold_keeps (port : Port) (lane : Byte) (serial : Serial) :
    s.keepsTrack (takeSetHold port lane serial s).1 := by
  refine holdRequest_keeps s port lane serial fun n slot p => ?_
  split
  · exact .refl s
  · exact State.setRows_keeps (setHold_sameIdentities _ _ _ _)

theorem takeClearHold_keeps (port : Port) (lane : Byte) (serial : Serial) :
    s.keepsTrack (takeClearHold port lane serial s).1 := by
  refine holdRequest_keeps s port lane serial fun n slot p => ?_
  split
  · exact .refl s
  · exact State.setRows_keeps (setHold_sameIdentities _ _ _ _)

theorem takeWriteConfiguration_keeps (now : Time) (port : Port) (contents : ConfigWire) :
    s.keepsTrack (takeWriteConfiguration now port contents s).1 := by
  unfold takeWriteConfiguration
  repeat' split
  any_goals exact .refl s
  rename_i hf
  exact s.acceptWrite_keeps now port (target := .configuration contents) hf

theorem takeWriteRecipe_keeps (now : Time) (port : Port) (slot : Byte) (contents : RecipeWire) :
    s.keepsTrack (takeWriteRecipe now port slot contents s).1 := by
  unfold takeWriteRecipe
  repeat' split
  any_goals exact .refl s
  rename_i slot _ _ hf _
  exact s.acceptWrite_keeps now port (target := .recipe slot contents) hf

theorem takeSetEventEnable_leaves (port : Port) (set : BitVec 16) : s.leavesTrack (takeSetEventEnable port set s).1 := by
  unfold takeSetEventEnable
  split
  · exact .refl s
  · exact s.setEvents_leaves _

theorem takeSetPortMask_leaves (target lane mask : Byte) : s.leavesTrack (takeSetPortMask target lane mask s).1 := by
  unfold takeSetPortMask
  repeat' split
  any_goals exact .refl s
  exact ⟨rfl, rfl, rfl, rfl⟩

/-- The requests that only read answer from the state they find. -/
theorem takeReadRecord_state (lane slot : Byte) : (takeReadRecord lane slot s).1 = s := by
  unfold takeReadRecord
  repeat' split
  all_goals rfl

theorem takeFindSerial_state (serial : Serial) : (takeFindSerial serial s).1 = s := by
  unfold takeFindSerial
  repeat' split
  all_goals rfl

theorem takeReadPlane_state (lane selector : Byte) : (takeReadPlane lane selector s).1 = s := by
  unfold takeReadPlane
  repeat' split
  all_goals rfl

theorem takeReadStrokeReport_state : (takeReadStrokeReport s).1 = s := by
  unfold takeReadStrokeReport
  split <;> rfl

theorem takeReadPlatens_state : (takeReadPlatens s).1 = s := by
  unfold takeReadPlatens
  split <;> rfl

theorem takeReadDischargeLog_state (first : BitVec 32) (count : Byte) :
    (takeReadDischargeLog first count s).1 = s := by
  unfold takeReadDischargeLog
  repeat' split
  all_goals rfl

theorem takeReadConfiguration_state : (takeReadConfiguration s).1 = s := by
  unfold takeReadConfiguration
  split <;> rfl

theorem takeReadRecipe_state (slot : Byte) : (takeReadRecipe slot s).1 = s := by
  unfold takeReadRecipe
  repeat' split
  all_goals rfl

theorem takeReadPortMask_state (target : Byte) : (takeReadPortMask target s).1 = s := by
  unfold takeReadPortMask
  split <;> rfl

/-- A request keeps the track, or, being Declare Web Break, loses it. -/
theorem takeRequest_track (now : Time) (port : Port) (r : Request) :
    s.keepsTrack (takeRequest now port r s).1 ∨ s.losesTrack (takeRequest now port r s).1 := by
  have same {t : State} (h : t = s) : s.keepsTrack t := h ▸ .refl s
  cases r with
  | declareWebBreak => exact takeDeclareWebBreak_track s
  | identify | readLineStatus | resetPart => exact .inl (.refl s)
  | enterStandby => exact .inl (takeEnterStandby_keeps s now)
  | leaveStandby => exact .inl (takeLeaveStandby_leaves s now).keeps
  | start => exact .inl (takeStart_leaves s).keeps
  | stop => exact .inl (takeStop_leaves s).keeps
  | setLaneMask set => exact .inl (takeSetLaneMask_leaves s set).keeps
  | setLaneRecipe lane presence slot => exact .inl (takeSetLaneRecipe_leaves s lane presence slot).keeps
  | postVerdict station lane serial value detail => exact .inl (takePostVerdict_keeps s ..)
  | setHold lane serial => exact .inl (takeSetHold_keeps s port lane serial)
  | clearHold lane serial => exact .inl (takeClearHold_keeps s port lane serial)
  | readRecord lane slot => exact .inl (same (takeReadRecord_state s lane slot))
  | findSerial serial => exact .inl (same (takeFindSerial_state s serial))
  | readPlane lane selector => exact .inl (same (takeReadPlane_state s lane selector))
  | readStrokeReport => exact .inl (same (takeReadStrokeReport_state s))
  | readPlatens => exact .inl (same (takeReadPlatens_state s))
  | readDischargeLog first count => exact .inl (same (takeReadDischargeLog_state s first count))
  | readEvents => exact .inl (s.setEvents_leaves _).keeps
  | setEventEnable set => exact .inl (takeSetEventEnable_leaves s port set).keeps
  | writeConfiguration contents => exact .inl (takeWriteConfiguration_keeps s now port contents)
  | readConfiguration => exact .inl (same (takeReadConfiguration_state s))
  | writeRecipe slot contents => exact .inl (takeWriteRecipe_keeps s now port slot contents)
  | readRecipe slot => exact .inl (same (takeReadRecipe_state s slot))
  | setPortMask target lane mask => exact .inl (takeSetPortMask_leaves s target lane mask).keeps
  | readPortMask target => exact .inl (same (takeReadPortMask_state s target))

end

/-! ### Frames and responses -/

/-- What an operation made of the track is what it made of it, whatever the ports hold. -/
theorem State.track_of_setPorts {s t : State} {q : Quad StationPort}
    (h : (s.setPorts q).keepsTrack t ∨ (s.setPorts q).losesTrack t) : s.keepsTrack t ∨ s.losesTrack t := by
  obtain h | h := h
  · exact .inl ((s.setPorts_leaves q).keeps.trans h)
  · exact .inr ⟨h.rows, h.geometry, h.numbering⟩

theorem State.track_trans_leaves {s t u : State} (h : s.keepsTrack t ∨ s.losesTrack t) (h' : t.leavesTrack u) :
    s.keepsTrack u ∨ s.losesTrack u :=
  h.imp (·.trans h'.keeps) (·.trans_leaves h')

theorem respond_leaves (port : Port) (code : Byte) (x : State × Reply) : x.1.leavesTrack (respond port code x) :=
  x.1.setPorts_leaves _

theorem answerRequest_track (now : Time) (port : Port) (r : Request) (s : State) :
    s.keepsTrack (answerRequest now port r s) ∨ s.losesTrack (answerRequest now port r s) :=
  State.track_trans_leaves (takeRequest_track s now port r) (respond_leaves _ _ _)

theorem answerFrame_track (now : Time) (port : Port) (f : Frame) (s : State) :
    s.keepsTrack (answerFrame now port f s) ∨ s.losesTrack (answerFrame now port f s) := by
  unfold answerFrame
  split
  · exact .inl (respond_leaves port _ (s, _)).keeps
  · exact .inl (respond_leaves port _ (s, _)).keeps
  · exact .inl (respond_leaves port _ (s, _)).keeps
  · exact answerRequest_track ..

theorem deliver_track {answer : State → State}
    (h : ∀ s : State, s.keepsTrack (answer s) ∨ s.losesTrack (answer s)) (port : Port) (f : Frame) (s : State) :
    s.keepsTrack (deliver port f answer s) ∨ s.losesTrack (deliver port f answer s) := by
  simp only [deliver]
  split
  · exact .inl (.refl s)
  · refine State.track_of_setPorts (?_ : (s.hunt port).keepsTrack _ ∨ (s.hunt port).losesTrack _)
    split
    · exact .inl (State.setPorts_leaves _ _).keeps
    · exact .inl (State.setPorts_leaves _ _).keeps
    · exact h _

theorem frameComplete_track (now : Time) (port : Port) (f : Frame) (s : State) :
    s.keepsTrack (frameComplete now port f s) ∨ s.losesTrack (frameComplete now port f s) :=
  deliver_track (answerFrame_track now port f) port f s

theorem submit_track (now : Time) (port : Port) (r : Request) (s : State) :
    s.keepsTrack (submit now port r s) ∨ s.losesTrack (submit now port r s) :=
  deliver_track (answerRequest_track now port r) port r.frame s

theorem State.receiveByte_track (s : State) (begun now : Time) (port : Port) (b : Byte) :
    s.keepsTrack (s.receiveByte begun now port b) ∨ s.losesTrack (s.receiveByte begun now port b) := by
  unfold State.receiveByte
  split
  · exact .inl (.refl s)
  · split
    · exact .inl (s.setPorts_leaves _).keeps
    · exact frameComplete_track ..

theorem State.answerHeld_track (s : State) (now : Time) (port : Port) :
    s.keepsTrack (s.answerHeld now port) ∨ s.losesTrack (s.answerHeld now port) := by
  unfold State.answerHeld
  split
  · exact .inl (.refl s)
  · exact State.track_of_setPorts (answerFrame_track _ _ _ _)

theorem State.responseSent_track (s : State) (now : Time) (port : Port) :
    s.keepsTrack (s.responseSent now port) ∨ s.losesTrack (s.responseSent now port) := by
  unfold State.responseSent
  split
  · exact .inl (.refl s)
  · split
    · exact .inr (s.afterReset_loses _ _)
    · exact State.track_of_setPorts (State.answerHeld_track _ _ _)

theorem State.resetTaken_track (s : State) (now : Time) (port : Port) :
    s.keepsTrack (s.resetTaken now port) ∨ s.losesTrack (s.resetTaken now port) := by
  unfold State.resetTaken
  split
  · exact .inr (s.afterReset_loses _ _)
  · exact .inl (.refl s)

/-! ### The step -/

/-- What one step can do to the track. -/
def State.trackStep (s t : State) : Prop :=
  (s.keepsTrack t ∨ s.losesTrack t) ∨ s.startsStroke t ∨ s.shiftsTrack t

/-- R17: a taken index shifts the track in SETUP, RUN and DRAIN, and loses it in STANDBY and WAKING. -/
theorem State.takeIndex_track (s : State) (now : Time) (cards : Quad Bool) :
    s.trackStep (s.takeIndex now cards) := by
  simp only [State.takeIndex]
  split
  · refine .inr (.inr ⟨⟨now, ?_⟩, fun n => ?_⟩)
    · exact (((State.verdictIndex_keeps _ cards).trans (State.abortStroke_keeps _ now).1).trans
        (State.gateIndex_leaves _ now).keeps).trans (State.drainCheck_leaves _).keeps
    · have h := (State.gateIndex_leaves (((s.shifted now).verdictIndex cards).abortStroke now) now).trans
        (State.drainCheck_leaves _)
      exact (h.captured n).trans ((State.abortStroke_keeps _ now).2 n)
  · have h := (s.setWeb (s.web.countEdge now)).loseTrack_loses
    exact .inl (.inr ⟨h.rows, h.geometry, h.numbering⟩)

theorem State.indexEdge_track (s : State) (now : Time) (cards : Quad Bool) :
    s.trackStep (s.indexEdge now cards) := by
  unfold State.indexEdge
  split
  · exact s.takeIndex_track now cards
  · exact .inl (.inl (s.raiseAll_leaves _).keeps)

/-- A line or timer command does what its effect does, and nothing while the RESET line is held. -/
theorem State.trackStep_of_effect {s e t : State}
    (h : (Host.Outcome.next (if s.resetHeld then s else e) : Answer) = .next t) (he : s.trackStep e) :
    s.trackStep t := by
  cases h
  split
  · exact .inl (.inl (.refl s))
  · exact he

/-- The queue plays no part in what a step does to the track. -/
theorem State.trackStep_of_pending {s t : State} {rest : List Instr}
    (h : ({ s with pending := rest } : State).trackStep t) : s.trackStep t := by
  obtain (h | h) | h | h := h
  · exact .inl (.inl ⟨h.lanes, h.length, h.nextSerial, h.rows, h.stations, h.captured, h.engine⟩)
  · exact .inl (.inr ⟨h.rows, h.geometry, h.numbering⟩)
  · exact .inr (.inl ⟨h.web, h.verdict, h.store, h.captured⟩)
  · obtain ⟨now, hk⟩ := h.kept
    exact .inr (.inr
      ⟨⟨now, hk.lanes, hk.length, hk.nextSerial, hk.rows, hk.stations, hk.captured, hk.engine⟩, h.idle⟩)

theorem execSealRisingEdge_track {now : Time} {ref : RawCode} {s t : State}
    (h : execSealRisingEdge now ref s = .next t) : s.trackStep t := by
  refine State.trackStep_of_effect h ?_
  beta_reduce
  split
  · split
    · exact .inr (.inl (s.startStroke_starts now ref))
    · exact .inl (.inl (.refl s))
  · exact .inl (.inl (.refl s))
  · exact .inl (.inl (.refl s))

theorem execRound_track {now : Time} {press : RawCode} {temps : Quad RawCode} {s t : State}
    (h : execRound now press temps s = .next t) : s.trackStep t := by
  refine State.trackStep_of_effect h ?_
  beta_reduce
  split
  · exact .inl (.inl (.refl s))
  · rename_i hk
    split
    · exact .inl (.inl (State.strokeRound_keeps hk press temps))
    · exact .inl (.inl (.refl s))
  · exact .inl (.inl (.refl s))

theorem execRoundCap_track {now : Time} {s t : State} (h : execRoundCap now s = .next t) : s.trackStep t := by
  refine State.trackStep_of_effect h ?_
  beta_reduce
  split
  · exact .inl (.inl (.refl s))
  · rename_i k hk
    refine .inl (.inl (State.setStroke_keeps fun k' hk' => ⟨k, by rw [hk]; rfl, fun n => ?_⟩))
    rw [capOrContinue_stroke? hk']
  · exact .inl (.inl (.refl s))

theorem execIdlePass_track {now : Time} {temps : Quad RawCode} {s t : State}
    (h : execIdlePass now temps s = .next t) : s.trackStep t := by
  refine State.trackStep_of_effect h ?_
  beta_reduce
  split
  · exact .inl (.inl (.refl s))
  · split
    · exact .inl (.inl ((s.idlePass_leaves temps).trans (State.setAcq_leaves _ _)).keeps)
    · exact .inl (.inl (.refl s))

theorem exec_track (c : Instr) {s t : State} (h : exec c s = .next t) : s.trackStep t := by
  cases c with
  | indexEdge now cards => exact State.trackStep_of_effect h (s.indexEdge_track now cards)
  | sealRisingEdge now ref => exact execSealRisingEdge_track h
  | round now press temps => exact execRound_track h
  | roundCap now => exact execRoundCap_track (now := now) h
  | idlePass now temps => exact execIdlePass_track h
  | sealFallingEdge now => exact State.trackStep_of_effect h (.inl (.inl (s.completeStroke_keeps now)))
  | rejectPulseExpiry now lane => exact State.trackStep_of_effect h (.inl (.inl (s.expirePulse_leaves now lane).keeps))
  | selfCheckExpiry now ref => exact State.trackStep_of_effect h (.inl (s.selfCheckExpiry_track now ref))
  | storeWriteCompletion now accepted =>
    exact State.trackStep_of_effect h (.inl (s.storeCompletion_track now accepted))
  | storeWriteDeadline now => exact State.trackStep_of_effect h (.inl (.inl (s.storeDeadline_keeps now)))
  | partResetTaken now port => exact State.trackStep_of_effect h (.inl (s.resetTaken_track now port))
  | responseSent now port => exact State.trackStep_of_effect h (.inl (s.responseSent_track now port))
  | interByteGap now port => exact State.trackStep_of_effect h (.inl (.inl (s.setPorts_leaves _).keeps))
  | powerOn now =>
    cases h
    exact .inl (.inr (s.afterReset_loses _ _))
  | resetLineAssert now =>
    cases h
    exact .inl (.inr s.assertReset_loses)
  | resetLineRelease now =>
    cases h
    exact .inl (s.releaseReset_track now)
  | badLenFrame begun now port len =>
    cases h
    exact .inl (s.receiveByte_track begun now port len)
  | byteReceived begun now port byte stopOk =>
    cases h
    cases stopOk
    · exact .inl (.inl (.refl s))
    · exact .inl (s.receiveByte_track begun now port byte)
  | frameHeld | lostFrame | badCheck | unknown =>
    cases h
    exact .inl (frameComplete_track ..)
  | _ =>
    cases h
    exact .inl (submit_track ..)

/-- Every step keeps the track, loses it, starts a stroke or shifts the track. -/
theorem step_track {s t : State} (h : step s = .next t) : s.trackStep t := by
  unfold step at h
  split at h
  · cases h
    exact .inl (.inl (.refl s))
  · rename_i c rest _
    exact State.trackStep_of_pending (exec_track c h)

theorem State.trackStep.geometryInv {s t : State} (h : s.trackStep t) (hg : s.geometryInv) : t.geometryInv := by
  obtain (h | h) | h | h := h
  · exact h.geometryInv hg
  · exact h.geometryInv hg
  · exact h.geometryInv hg
  · exact h.geometryInv hg

theorem State.trackStep.serialInv {s t : State} (h : s.trackStep t) (hg : s.geometryInv) (hs : s.serialInv) :
    t.serialInv := by
  obtain (h | h) | h | h := h
  · exact h.serialInv hs
  · exact h.serialInv hs
  · exact h.serialInv hs
  · exact h.serialInv hg hs

theorem State.trackStep.captureInv {s t : State} (h : s.trackStep t) (hg : s.geometryInv) (hs : s.serialInv)
    (hc : s.captureInv) : t.captureInv := by
  obtain (h | h) | h | h := h
  · exact h.captureInv hc
  · exact h.captureInv hc
  · exact h.captureInv hg hs
  · exact h.captureInv

/-- Settles O10: each of the four things that a step can do to the track keeps its geometry. -/
theorem stepKeepsGeometryInv : Obligations.StepKeepsGeometryInv := by
  intro s t hg h
  exact (step_track h).geometryInv hg

/-- Settles O9: each of the four things that a step can do to the track keeps its serials apart, and the captured ones in
their places. -/
theorem stepKeepsSerialInv : Obligations.StepKeepsSerialInv := by
  intro s t hg hs h
  exact ⟨(step_track h).serialInv hg hs, (step_track h).captureInv hg hs⟩

/-! ## Index edges that do not shift the track, and the web break -/

/-- R14: the edge test of the model, in the terms of the statements. -/
theorem WebTrack.takesEdge_iff (s : State) (now : Time) : s.web.takesEdge now = true ↔ s.edgeTaken now := by
  unfold WebTrack.takesEdge State.edgeTaken
  cases s.web.lastTaken <;> simp

theorem exec_indexEdge {s : State} (hr : s.resetHeld = false) (now : Time) (cards : Quad Bool) :
    exec (.indexEdge now cards) s = .next (s.indexEdge now cards) := by
  exact congrArg Host.Outcome.next (if_neg (by simp [hr]))

theorem exec_indexEdge_taken {s : State} (hr : s.resetHeld = false) {now : Time} (ht : s.edgeTaken now)
    (cards : Quad Bool) : exec (.indexEdge now cards) s = .next (s.takeIndex now cards) := by
  rw [exec_indexEdge hr, State.indexEdge, if_pos ((WebTrack.takesEdge_iff s now).mpr ht)]

/-- R17: in SETUP, RUN and DRAIN a taken index is handed on to the other blocks on the shifted track. -/
theorem State.takeIndex_active {s : State} (h : s.mode.mode.active = true) (now : Time) (cards : Quad Bool) :
    s.takeIndex now cards = (s.shifted now).handOn now cards := by
  simp only [State.takeIndex, State.setWeb_mode, h, if_true]
  rfl

theorem State.takeIndex_inactive {s : State} (h : s.mode.mode.active = false) (now : Time) (cards : Quad Bool) :
    s.takeIndex now cards = (s.setWeb (s.web.countEdge now)).loseTrack := by
  simp only [State.takeIndex, State.setWeb_mode, h, Bool.false_eq_true, if_false]

/-- Settles O3: the edge comes before the minimum interval, so it is not taken. -/
theorem indexEdgeIgnored : Obligations.IndexEdgeIgnored := by
  intro now last cards s hr hl hlt
  have hn : ¬s.edgeTaken now := fun h => absurd (h last hl) (Nat.not_le.mpr hlt)
  rw [exec_indexEdge hr, State.indexEdge, if_neg (mt (WebTrack.takesEdge_iff s now).mp hn)]
  rfl

/-- Settles O4: the track is lost at its own geometry, on the counted edge. -/
theorem indexEdgeFrozenLosesTrack : Obligations.IndexEdgeFrozenLosesTrack := by
  intro now cards s hr ht hm
  have hi : s.mode.mode.active = false := by
    obtain h | h := hm <;> rw [h] <;> rfl
  rw [exec_indexEdge_taken hr ht, State.takeIndex_inactive hi]
  rfl

theorem takeDeclareWebBreak_of_setup {s : State} (h : s.mode.mode = .standby ∨ s.mode.mode = .setup) :
    takeDeclareWebBreak s = withMode s.loseTrack := by
  obtain h | h := h <;> simp only [takeDeclareWebBreak, h]

theorem takeDeclareWebBreak_of_run {s : State} (h : s.mode.mode = .run ∨ s.mode.mode = .drain) :
    takeDeclareWebBreak s = withMode (s.loseTrack.changeMode .setup) := by
  obtain h | h := h <;> simp only [takeDeclareWebBreak, h]

/-- Two flags raised are the flags of both added. -/
theorem State.flagging_flagging (s : State) (a b : BitVec 10) :
    ({ s with events := s.flagging a } : State).flagging b = s.flagging (a ||| b) := by
  apply Quad.ext_get
  intro i
  simp [State.flagging, BitVec.or_assoc]

/-- Settles O35: the loss of R22, and out of RUN and DRAIN the change into SETUP. -/
theorem webBreakLosesTrack : Obligations.WebBreakLosesTrack := by
  intro now port s hp
  refine ⟨fun h => ?_, fun h => ?_⟩
  · refine (exec_command_idle hp now .declareWebBreak).trans ?_
    rw [takeRequest, takeDeclareWebBreak_of_setup h]
    rfl
  · refine (exec_command_idle hp now .declareWebBreak).trans ?_
    have hf : ({ s with events := s.flagging 0x040 } : State).flagging 0x020 = s.flagging 0x060 :=
      s.flagging_flagging 0x040 0x020
    rw [takeRequest, takeDeclareWebBreak_of_run h, ← hf]
    rfl

/-! ## Codes -/

/-- Settles O13: table by table. -/
theorem wireCodes : Obligations.WireCodes := by
  refine ⟨rfl, fun _ => rfl, fun _ => rfl, rfl, fun _ => rfl, fun v d => rfl, rfl, rfl, rfl, rfl, rfl, rfl, rfl, rfl,
    rfl, rfl, by decide, rfl⟩

/-! ## The state after a reset -/

/-- A part with no PRODUCT record and no stroke in flight. -/
theorem State.serialInv_of_untracked {s : State} (hr : s.web.rows = untrackedRows s.web.lanes s.web.length)
    (hc : s.web.nextSerial ≠ 0) (hk : s.stroke.phase.stroke? = none) : s.serialInv ∧ s.captureInv := by
  rw [State.serialInv_iff, State.captureInv_iff]
  simp only [State.serialAt_of_untracked hr, State.captured_of_stroke? hk]
  exact ⟨⟨hc, nofun, nofun, nofun⟩, nofun⟩

theorem StationPort.fresh_inv (baud : Baud) : (StationPort.fresh baud).inv := ⟨nofun, fun h => absurd rfl h⟩

theorem PortEvents.fresh_inv (enable : BitVec 10) : (PortEvents.fresh enable).inv := by
  simp [PortEvents.inv, PortEvents.fresh]

theorem LaneSamples.fresh_inv (r : ReadyState) : (LaneSamples.fresh r).inv := ⟨Nat.zero_le _, nofun, nofun⟩

/-- Settles O11: the track holds no PRODUCT record, nothing is in flight, and every buffer, log and flag set is empty. -/
theorem resetMeetsInvariants : Obligations.ResetMeetsInvariants := by
  have hserial := State.serialInv_of_untracked (s := State.reset) rfl (by decide) rfl
  have hlane (n : Lane) : State.reset.acq.lanes.get n = .fresh .noRecipe := Quad.get_fill _ n
  have hport (p : Port) : State.reset.ports.get p = .fresh .b115200 := Quad.get_fill _ p
  have hevents (p : Port) : State.reset.events.get p = .fresh 0x3FF := Quad.get_fill _ p
  exact ⟨⟨⟨by decide, by decide, by decide, by decide, by decide⟩, factoryDefault_fits.2, nofun⟩, hserial.1,
    hserial.2, ⟨by decide, nofun, nofun⟩, ⟨nofun, by decide, nofun⟩, ⟨fun n => hlane n ▸ LaneSamples.fresh_inv _, trivial⟩,
    ⟨fun _ => rfl, fun h => absurd rfl h, by simp [State.reset, Mode.active]⟩,
    fun p => ⟨hport p ▸ StationPort.fresh_inv _, hevents p ▸ PortEvents.fresh_inv _⟩, nofun⟩

/-! ## Resets -/

theorem exec_powerOn (now : Time) (s : State) : exec (.powerOn now) s = .next (s.powerOn now) := rfl

theorem State.afterReset_resetHeld {s : State} {b : Bool} (h : s.resetHeld = b) (keep : Bool) (wake : Option Wake) :
    s.afterReset keep wake = { s.afterReset keep wake with resetHeld := b } := by
  subst h
  rfl

theorem State.powerOn_of_not_held {s : State} (h : s.resetHeld = false) (now : Time) :
    s.powerOn now = s.afterReset false (some (resetWake now)) := by
  simp [State.powerOn, h]

theorem State.powerOn_of_held {s : State} (h : s.resetHeld = true) (now : Time) :
    s.powerOn now = s.afterReset false none := by
  simp [State.powerOn, h]

theorem State.releaseReset_of_held {s : State} (h : s.resetHeld = true) (now : Time) :
    s.releaseReset now = { s.afterReset false (some (resetWake now)) with resetHeld := false } := by
  simp [State.releaseReset, h]

theorem State.releaseReset_of_not_held {s : State} (h : s.resetHeld = false) (now : Time) :
    s.releaseReset now = s := by
  simp [State.releaseReset, h]

/-- A set of lanes held for the lanes below N. -/
theorem restrict_false (q : Quad Bool) (n : Nat) :
    q.restrict n false = Quad.ofFn fun lane => decide (lane.val < n) && q.get lane := by
  apply Quad.ext_get
  intro lane
  by_cases h : lane.val < n <;> simp [h]

/-- Settles O56: a held line shuts out every command but the resets, and each reset leaves what `afterReset` says, on the
configuration the store supplies. -/
theorem powerOnAndResetLine : Obligations.PowerOnAndResetLine := by
  refine ⟨fun c s hr hp ha hl => exec_of_held c hr hp ha hl, fun now c s hc => ?_⟩
  obtain rfl := (RecipeStore.supplies_iff _ _).mp hc
  simp only [← restrict_false]
  refine ⟨fun h => ?_, fun h => ?_, fun h => ?_, fun h => ?_, rfl⟩
  · exact congrArg Host.Outcome.next ((State.powerOn_of_not_held h now).trans (State.afterReset_resetHeld h _ _))
  · exact congrArg Host.Outcome.next ((State.powerOn_of_held h now).trans (State.afterReset_resetHeld h _ _))
  · exact congrArg Host.Outcome.next (State.releaseReset_of_held h now)
  · exact congrArg Host.Outcome.next (State.releaseReset_of_not_held h now)

theorem State.resetTaken_eq {s : State} {port : Port} {r : Response} (hs : (s.ports.get port).sending = some r)
    (hr : r.announcesReset = true) (now : Time) : s.resetTaken now port = s.partReset now := by
  simp [State.resetTaken, hs, hr]

theorem State.responseSent_eq_partReset {s : State} {port : Port} {r : Response}
    (hs : (s.ports.get port).sending = some r) (hr : r.announcesReset = true) (now : Time) :
    s.responseSent now port = s.partReset now := by
  simp [State.responseSent, hs, hr]

/-- Settles O57: both commands take the reset that the response announced, which differs from power-on in what it
keeps. -/
theorem partResetKeepsNumbering : Obligations.PartResetKeepsNumbering := by
  intro now port s hh
  refine ⟨fun hp => exec_command_idle hp now .resetPart, fun r hs hcode hstatus => ?_⟩
  have hr : r.announcesReset = true := by simp [Response.announcesReset, hcode, hstatus]
  refine ⟨_, (exec_powerOn now s).trans (congrArg _ (State.powerOn_of_not_held hh now)), ?_, ?_⟩
  · exact congrArg Host.Outcome.next ((if_neg (by simp [hh])).trans (State.resetTaken_eq hs hr now))
  · exact congrArg Host.Outcome.next ((if_neg (by simp [hh])).trans (State.responseSent_eq_partReset hs hr now))

/-! ## Reading the track -/

theorem laneOf_of_lt {lanes : Nat} {b : Byte} (h4 : lanes ≤ 4) (h : b.toNat < lanes) :
    laneOf lanes b = some (Fin.ofNat 4 b.toNat) := by
  rw [laneOf, if_pos ⟨by omega, h⟩]

theorem planeWidth_eq_none {selector : Byte} (h : selector = 0 ∨ 11 ≤ selector.toNat) :
    planeWidth selector = none := by
  obtain rfl | h := h
  · rfl
  · unfold planeWidth
    split
    case h_11 => rfl
    all_goals omega

theorem selector_bounds {selector : Byte} (h : ¬(selector = 0 ∨ 11 ≤ selector.toNat)) :
    0 < selector.toNat ∧ selector.toNat < 11 := by
  obtain ⟨h0, h11⟩ := not_or.mp h
  exact ⟨Nat.pos_of_ne_zero fun hz => h0 (BitVec.eq_of_toNat_eq hz), by omega⟩

/-- R28: selectors 1 to 10 name planes. -/
theorem exists_planeWidth {selector : Byte} (h0 : 0 < selector.toNat) (h11 : selector.toNat < 11) :
    ∃ width, planeWidth selector = some width := by
  unfold planeWidth
  generalize selector.toNat = v at h0 h11
  interval_cases v <;> exact ⟨_, rfl⟩

theorem Record.bytes_length (r : Record) : r.bytes.length = 19 := by
  cases r <;> simp [Record.bytes, nat24]

/-- A run of bytes, byte by byte. -/
theorem take_drop_eq_byteAt {l : List Byte} {k w : Nat} (h : k + w ≤ l.length) :
    (l.drop k).take w = (List.range w).map fun i => byteAt l (k + i) := by
  apply List.ext_getElem
  · simp
    omega
  · intro i hi _
    simp only [List.length_take, List.length_drop] at hi
    simp [byteAt, List.getD_eq_getElem?_getD, List.getElem?_eq_getElem (show k + i < l.length by omega)]

/-- R28: a plane's element lies within the record's 19 bytes. -/
theorem planeOffset_add_le {selector : Byte} {width : Nat} (h : planeWidth selector = some width) :
    planeOffset selector + width ≤ 19 := by
  unfold planeWidth at h
  unfold planeOffset
  generalize selector.toNat = v at h
  split at h <;> cases h <;> decide

theorem Record.planeElement_eq {selector : Byte} {width : Nat} (h : planeWidth selector = some width) (r : Record) :
    r.planeElement selector width = (List.range width).map fun i => byteAt r.bytes (planeOffset selector + i) :=
  take_drop_eq_byteAt (r.bytes_length ▸ planeOffset_add_le h)

section
variable {s : State} {lane : Byte} {n : Lane}

theorem takeReadRecord_of_lane (hm : s.mode.mode ≠ .waking) (hl : laneOf s.web.lanes lane = some n) (slot : Byte) :
    takeReadRecord lane slot s =
      (s, ((s.recordAt n slot.toNat).map fun r => Reply.ok r.bytes).getD (Reply.refuse .badValue)) := by
  simp only [takeReadRecord, hm, if_false, hl, State.recordAt]
  cases (s.web.rows.get n)[slot.toNat]? <;> rfl

theorem takeReadPlane_of_none (hm : s.mode.mode ≠ .waking) {selector : Byte} (hw : planeWidth selector = none) :
    takeReadPlane lane selector s = (s, Reply.refuse .badValue) := by
  simp only [takeReadPlane, hm, if_false, hw]
  cases laneOf s.web.lanes lane <;> rfl

theorem takeReadPlane_of_some (hm : s.mode.mode ≠ .waking) (hl : laneOf s.web.lanes lane = some n)
    {selector : Byte} {width : Nat} (hw : planeWidth selector = some width) :
    takeReadPlane lane selector s =
      (s, Reply.ok ([lane, selector, byteOf (s.web.rows.get n).length] ++
        (s.web.rows.get n).flatMap fun r =>
          (List.range width).map fun i => byteAt r.bytes (planeOffset selector + i))) := by
  simp only [takeReadPlane, hm, if_false, hl, hw, Record.planeElement_eq hw]

end

theorem takeReadRecord_waking {s : State} (h : s.mode.mode = .waking) (lane slot : Byte) :
    takeReadRecord lane slot s = (s, Reply.refuse .busy) := by
  simp [takeReadRecord, h]

theorem takeReadPlane_waking {s : State} (h : s.mode.mode = .waking) (lane selector : Byte) :
    takeReadPlane lane selector s = (s, Reply.refuse .busy) := by
  simp [takeReadPlane, h]

theorem takeReadRecord_of_no_lane {s : State} (hm : s.mode.mode ≠ .waking) {lane : Byte}
    (hl : s.web.lanes ≤ lane.toNat) (slot : Byte) : takeReadRecord lane slot s = (s, Reply.refuse .badValue) := by
  simp [takeReadRecord, hm, laneOf_eq_none hl]

theorem takeReadPlane_of_no_lane {s : State} (hm : s.mode.mode ≠ .waking) {lane : Byte}
    (hl : s.web.lanes ≤ lane.toNat) (selector : Byte) :
    takeReadPlane lane selector s = (s, Reply.refuse .badValue) := by
  simp [takeReadPlane, hm, laneOf_eq_none hl]

/-! ### Finding a serial (R9, R10, R27) -/

theorem findInLanes_eq_none {rows : Quad (List Record)} {n : Serial} {lanes : List Lane}
    (h : ∀ lane ∈ lanes, findInRow n (rows.get lane) = none) : findInLanes rows n lanes = none := by
  induction lanes with
  | nil => rfl
  | cons lane rest ih =>
    rw [findInLanes, h lane List.mem_cons_self]
    exact ih fun l hl => h l (List.mem_cons_of_mem _ hl)

theorem findInLanes_eq_some {rows : Quad (List Record)} {n : Serial} {lanes : List Lane} {lane : Lane}
    {x : Nat × Product} (hmem : lane ∈ lanes) (h : findInRow n (rows.get lane) = some x)
    (ho : ∀ l, l ≠ lane → findInRow n (rows.get l) = none) : findInLanes rows n lanes = some (lane, x) := by
  induction lanes with
  | nil => cases hmem
  | cons l rest ih =>
    by_cases hl : l = lane
    · subst hl
      rw [findInLanes, h]
    · rw [findInLanes, ho l hl]
      exact ih (List.mem_of_ne_of_mem (Ne.symm hl) hmem)

/-- R27: a search of the track finds the one PRODUCT record with the serial. -/
theorem findOnTrack_eq_some {rows : Quad (List Record)} {n : Serial} {lane : Lane} {slot : Nat} {p : Product}
    (h : (rows.get lane)[slot]? = some (.product p)) (hs : p.serial = n)
    (hu : ∀ (l : Lane) (k : Nat) (q : Product), (rows.get l)[k]? = some (.product q) → q.serial = n →
      l = lane ∧ k = slot) : findOnTrack rows n = some (lane, slot, p) := by
  refine findInLanes_eq_some (mem_lanes4 lane) (findInRow_eq_some h hs fun k q hk hq => (hu lane k q hk hq).2)
    fun l hl => findInRow_eq_none fun k q hk hq => hl (hu l k q hk hq).1

theorem findOnTrack_eq_none {rows : Quad (List Record)} {n : Serial}
    (h : ∀ (l : Lane) (k : Nat) (q : Product), (rows.get l)[k]? = some (.product q) → q.serial ≠ n) :
    findOnTrack rows n = none :=
  findInLanes_eq_none fun l _ => findInRow_eq_none (h l)

/-- Settles O14: the checks in their order, and a serial found where it alone stands. -/
theorem trackReads : Obligations.TrackReads := by
  refine ⟨fun now port lane slot selector s hp hw => ⟨?_, ?_⟩, fun now port serial s hp hg hs => ?_⟩
  · refine (exec_command_idle hp now (.readRecord lane slot)).trans (congrArg Host.Outcome.next ?_)
    rw [takeRequest]
    split
    · rename_i hm
      rw [takeReadRecord_waking hm]
      rfl
    · rename_i hm
      split
      · rename_i hl
        rw [takeReadRecord_of_no_lane hm hl]
        rfl
      · rename_i hl
        rw [takeReadRecord_of_lane hm (laneOf_of_lt hw.lanes_le (Nat.not_le.mp hl))]
        cases s.recordAt (Fin.ofNat 4 lane.toNat) slot.toNat <;> rfl
  · refine (exec_command_idle hp now (.readPlane lane selector)).trans (congrArg Host.Outcome.next ?_)
    rw [takeRequest]
    split
    · rename_i hm
      rw [takeReadPlane_waking hm]
      rfl
    · rename_i hm
      split
      · rename_i hl
        rw [takeReadPlane_of_no_lane hm hl]
        rfl
      · rename_i hl
        split
        · rename_i hsel
          rw [takeReadPlane_of_none hm (planeWidth_eq_none hsel)]
          rfl
        · rename_i hsel
          obtain ⟨h0, h11⟩ := selector_bounds hsel
          obtain ⟨width, hwidth⟩ := exists_planeWidth h0 h11
          have hlane := laneOf_of_lt hw.lanes_le (Nat.not_le.mp hl)
          have hlt : (Fin.ofNat 4 lane.toNat : Lane).val < s.web.lanes :=
            (Nat.mod_le lane.toNat 4).trans_lt (Nat.not_le.mp hl)
          rw [takeReadPlane_of_some hm hlane hwidth, hw.rows_length hlt]
          unfold planeWidth at hwidth
          unfold planeOffset
          generalize selector.toNat = v at h0 h11 hwidth
          interval_cases v <;> cases hwidth <;> rfl
  · refine ⟨fun hm => ?_, fun hm h0 => ?_, fun lane slot p hm hp' he => ?_, fun hm h0 hn => ?_⟩ <;>
      refine (exec_command_idle hp now (.findSerial serial)).trans (congrArg Host.Outcome.next ?_) <;>
      rw [takeRequest, takeFindSerial]
    · rw [if_pos hm]
      rfl
    · rw [if_neg hm, if_pos h0]
      rfl
    · obtain ⟨-, hage, hunique, -⟩ := hs
      have h0 : serial ≠ 0 := he ▸ (hage lane slot p hp').1
      have hfind : findOnTrack s.web.rows serial = some (lane, slot, p) :=
        findOnTrack_eq_some hp' he fun l k q hq hqs => hunique l k q lane slot p hq hp' (hqs.trans he.symm)
      rw [if_neg hm, if_neg h0, hfind]
      rfl
    · rw [if_neg hm, if_neg h0, findOnTrack_eq_none hn]
      rfl

/-! ## The abort of a stroke, over the whole track

A write by serial goes to one record, and the serials it names are distinct, so the writes of an abort are one map over
the rows. -/

/-- R12: no two PRODUCT records of the rows carry the same serial. -/
def serialsUnique (rows : Quad (List Record)) : Prop :=
  ∀ (lane : Lane) (slot : Nat) (p : Product) (lane' : Lane) (slot' : Nat) (p' : Product),
    (rows.get lane)[slot]? = some (.product p) → (rows.get lane')[slot']? = some (.product p') →
    p.serial = p'.serial → lane = lane' ∧ slot = slot'

/-- A change made to every PRODUCT record of the rows. -/
def changeAll (f : Product → Product) (rows : Quad (List Record)) : Quad (List Record) :=
  rows.map fun row => row.map (Record.onProduct f)

@[simp] theorem changeAll_get (f : Product → Product) (rows : Quad (List Record)) (lane : Lane) :
    (changeAll f rows).get lane = (rows.get lane).map (Record.onProduct f) := by
  simp [changeAll]

@[simp] theorem changeAll_self (rows : Quad (List Record)) : changeAll (fun p => p) rows = rows := by
  apply Quad.ext_get
  intro lane
  rw [changeAll_get, funext Record.onProduct_id]
  exact List.map_id _

theorem changeAll_changeAll (f g : Product → Product) (rows : Quad (List Record)) :
    changeAll g (changeAll f rows) = changeAll (fun p => g (f p)) rows := by
  apply Quad.ext_get
  intro lane
  simp [Function.comp_def]

theorem Record.onProduct_eq_product {f : Product → Product} {r : Record} {q : Product}
    (h : r.onProduct f = .product q) : ∃ p, r = .product p ∧ f p = q := by
  cases r <;> simp_all [Record.onProduct]

theorem serialsUnique.changeAll {rows : Quad (List Record)} (h : serialsUnique rows) {f : Product → Product}
    (hf : ∀ p, (f p).serial = p.serial) : serialsUnique (changeAll f rows) := by
  intro lane slot q lane' slot' q' hq hq' he
  rw [changeAll_get, List.getElem?_map, Option.map_eq_some_iff] at hq hq'
  obtain ⟨r, hr, hq⟩ := hq
  obtain ⟨r', hr', hq'⟩ := hq'
  obtain ⟨p, rfl, rfl⟩ := Record.onProduct_eq_product hq
  obtain ⟨p', rfl, rfl⟩ := Record.onProduct_eq_product hq'
  exact h lane slot p lane' slot' p' hr hr' (by simpa only [hf] using he)

theorem findInLanes_sound {rows : Quad (List Record)} {n : Serial} {lanes : List Lane} {lane : Lane} {slot : Nat}
    {p : Product} (h : findInLanes rows n lanes = some (lane, slot, p)) :
    (rows.get lane)[slot]? = some (.product p) ∧ p.serial = n := by
  induction lanes with
  | nil => cases h
  | cons l rest ih =>
    rw [findInLanes] at h
    split at h
    · rename_i x hx
      cases h
      exact findInRow_sound hx
    · exact ih h

/-- A record of another serial is not one that a write by serial goes to. -/
theorem onProduct_of_serial_ne {n : Serial} {f : Product → Product} {r : Record}
    (h : ∀ p, r = .product p → p.serial ≠ n) : (r.onProduct fun p => if p.serial = n then f p else p) = r := by
  cases r with
  | product p => simp [Record.onProduct, h p rfl]
  | void => rfl
  | untracked => rfl

/-- R9: a write by serial, seen from every record. -/
theorem changeSerial_eq {rows : Quad (List Record)} (h : serialsUnique rows) (n : Serial) (f : Product → Product) :
    changeSerial rows n f = changeAll (fun p => if p.serial = n then f p else p) rows := by
  apply Quad.ext_get
  intro i
  rw [changeAll_get]
  apply List.ext_getElem?
  intro j
  rw [List.getElem?_map]
  unfold changeSerial
  split
  · rename_i lane slot p hfind
    obtain ⟨hp, hs⟩ := findInLanes_sound hfind
    have hother (r : Record) (hr : (rows.get i)[j]? = some r) (hne : ¬(lane = i ∧ slot = j)) :
        (r.onProduct fun p => if p.serial = n then f p else p) = r :=
      onProduct_of_serial_ne fun q hq he => hne (h lane slot p i j q hp (hq ▸ hr) (hs.trans he.symm))
    by_cases hl : lane = i
    · subst hl
      rw [changeAt, Quad.get_set_self, List.getElem?_modify]
      rcases hr : (rows.get lane)[j]? with _ | r
      · rfl
      · by_cases hj : slot = j
        · subst hj
          obtain rfl : Record.product p = r := Option.some.inj (hp.symm.trans hr)
          simp [Record.onProduct, hs]
        · simp [hj, hother r hr (by simp [hj])]
    · rw [changeAt, Quad.get_set_ne _ _ hl]
      rcases hr : (rows.get i)[j]? with _ | r
      · rfl
      · simp [hother r hr (by simp [hl])]
  · rename_i hfind
    rcases hr : (rows.get i)[j]? with _ | r
    · rfl
    · have hne : ∀ q, r = .product q → q.serial ≠ n := by
        rintro q rfl he
        rw [findOnTrack_eq_some hr he fun l k q' hq' hqs => h l k q' i j q hq' hr (hqs.trans he.symm)] at hfind
        cases hfind
      simp [onProduct_of_serial_ne hne]

/-- R98: what one lane of an aborted stroke makes of a record. -/
def StrokeLane.abortMark (l : StrokeLane) (p : Product) : Product :=
  if l.serial == some p.serial && l.used.isSome then { p with heatSeal := p.heatSeal.after .aborted } else p

@[simp] theorem StrokeLane.abortMark_serial (l : StrokeLane) (p : Product) : (l.abortMark p).serial = p.serial := by
  unfold StrokeLane.abortMark
  split <;> rfl

theorem SealMark.struck_eq_after (old new : SealMark) : old.struck new = old.after new := by
  cases old <;> rfl

theorem writeTarget_abort {rows : Quad (List Record)} (h : serialsUnique rows) (k : Stroke) (l : StrokeLane) :
    writeTarget rows l (k.abortVerdict l) = changeAll l.abortMark rows := by
  rcases hs : l.serial with _ | n
  · have hm : l.abortMark = fun p => p := by
      funext p
      simp [StrokeLane.abortMark, hs]
    simp [writeTarget, hs, hm]
  · rcases hu : l.used with _ | x
    · have hm : l.abortMark = fun p => p := by
        funext p
        simp [StrokeLane.abortMark, hu]
      simp [writeTarget, hs, Stroke.abortVerdict, hu, ReportVerdict.mark, hm]
    · have hm : l.abortMark = fun p => if p.serial = n then { p with heatSeal := p.heatSeal.struck .aborted } else p := by
        funext p
        by_cases he : p.serial = n
        · simp [StrokeLane.abortMark, hs, hu, SealMark.struck_eq_after, he]
        · simp [StrokeLane.abortMark, hs, he, Ne.symm he]
      rw [hm, ← changeSerial_eq h]
      simp [writeTarget, hs, Stroke.abortVerdict, hu, ReportVerdict.mark]

theorem foldl_writeTarget_abort (k : Stroke) (lanes : List StrokeLane) {rows : Quad (List Record)}
    (h : serialsUnique rows) :
    lanes.foldl (fun rows l => writeTarget rows l (k.abortVerdict l)) rows =
      changeAll (fun p => lanes.foldl (fun p l => l.abortMark p) p) rows := by
  induction lanes generalizing rows with
  | nil => simp
  | cons l rest ih =>
    rw [List.foldl_cons, writeTarget_abort h, ih (h.changeAll l.abortMark_serial), changeAll_changeAll]
    rfl

theorem Quad.take_eq {α : Type} (q : Quad α) (n : Nat) : q.take n = (lanesBelow n).map q.get := by
  rcases n with _ | _ | _ | _ | n
  · rfl
  · rfl
  · rfl
  · rfl
  · simp [Quad.take, Quad.toList, lanesBelow, lanes4, Quad.get]

theorem lanesBelow_nodup (n : Nat) : (lanesBelow n).Nodup := List.Nodup.filter _ (by decide)

/-- R98: `State.abortMark` of the stroke in flight. -/
def Stroke.abortMark (k : Stroke) (p : Product) : Product :=
  if (lanesBelow k.laneCount).any fun n => (k.lanes.get n).serial == some p.serial && (k.lanes.get n).used.isSome then
    { p with heatSeal := p.heatSeal.after .aborted }
  else p

theorem State.abortMark_of_idle {s : State} (h : s.stroke.phase.stroke? = none) : s.abortMark = fun p => p := by
  funext p
  simp [State.abortMark, h]

theorem State.abortMark_of_stroke {s : State} {k : Stroke} (h : s.stroke.phase.stroke? = some k) :
    s.abortMark = k.abortMark := by
  funext p
  simp [State.abortMark, h, Stroke.abortMark]

/-- Lanes that captured distinct serials mark a record at most once between them. -/
theorem foldl_abortMark {k : Stroke}
    (hk : ∀ n n' x, (k.lanes.get n).serial = some x → (k.lanes.get n').serial = some x → n = n')
    {lanes : List Lane} (hd : lanes.Nodup) (p : Product) :
    lanes.foldl (fun p n => (k.lanes.get n).abortMark p) p =
      if lanes.any fun n => (k.lanes.get n).serial == some p.serial && (k.lanes.get n).used.isSome then
        { p with heatSeal := p.heatSeal.after .aborted }
      else p := by
  induction lanes generalizing p with
  | nil => rfl
  | cons n rest ih =>
    obtain ⟨hn, hd⟩ := List.nodup_cons.mp hd
    rw [List.foldl_cons, ih hd, StrokeLane.abortMark_serial, List.any_cons]
    by_cases ht : ((k.lanes.get n).serial == some p.serial && (k.lanes.get n).used.isSome) = true
    · have hrest : (rest.any fun n => (k.lanes.get n).serial == some p.serial && (k.lanes.get n).used.isSome) =
          false := by
        rw [List.any_eq_false]
        intro n' hn' ht'
        simp only [Bool.and_eq_true, beq_iff_eq] at ht ht'
        exact hn (hk n n' _ ht.1 ht'.1 ▸ hn')
      simp only [hrest, ht, Bool.true_or, if_true, Bool.false_eq_true, if_false, StrokeLane.abortMark]
    · simp only [ht, Bool.false_or, StrokeLane.abortMark, Bool.false_eq_true, if_false]

/-- R98: the writes of an abort, in lane order, mark each target once and nothing else. -/
theorem Stroke.writeTargets_abort {k : Stroke} {rows : Quad (List Record)} (h : serialsUnique rows)
    (hk : ∀ n n' x, (k.lanes.get n).serial = some x → (k.lanes.get n').serial = some x → n = n') :
    k.writeTargets k.abortVerdict rows = changeAll k.abortMark rows := by
  rw [Stroke.writeTargets, foldl_writeTarget_abort k _ h]
  congr 1
  funext p
  rw [Quad.take_eq, List.foldl_map, foldl_abortMark hk (lanesBelow_nodup _)]
  rfl

/-! ## A taken index handed on -/

theorem State.stroke?_of_idle {s : State} (h : s.stroke.phase = .idle) : s.stroke.phase.stroke? = none := by
  rw [h]
  rfl

theorem StrokePhase.exists_stroke {phase : StrokePhase} (h : phase ≠ .idle) : ∃ k, phase.stroke? = some k := by
  cases phase with
  | idle => exact absurd rfl h
  | sampling due k => exact ⟨k, rfl⟩
  | capped k => exact ⟨k, rfl⟩

/-- R98: a record whose serial no lane captured is not marked. -/
theorem State.abortMark_of_not_captured {s : State} {p : Product} (h : ∀ n, s.captured n ≠ some p.serial) :
    s.abortMark p = p := by
  unfold State.abortMark
  split
  · rfl
  · rename_i k hk
    refine if_neg ?_
    rw [List.any_eq_true]
    rintro ⟨n, -, hn⟩
    simp only [Bool.and_eq_true, beq_iff_eq] at hn
    exact h n (State.captured_eq_some.mpr ⟨k, hk, hn.1⟩)

/-- The abort and the Verdict Unit's index work touch different fields, so their order does not show (R21). -/
theorem State.abortMark_brought (s : State) (m : StationMap) (high : Bool) (slot : Nat) (p : Product) :
    s.abortMark (p.brought m high slot) = (s.abortMark p).brought m high slot := by
  unfold State.abortMark
  split
  · rfl
  · rw [apply_ite (Product.brought m high slot)]
    rfl

/-- What a stroke in flight must meet for its abort to mark its targets and nothing else: the invariants of O9 and O10. -/
def State.strokePlaced (s : State) : Prop :=
  s.stroke.phase ≠ .idle → s.geometryInv ∧ s.serialInv ∧ s.captureInv

/-- R98: the entry record takes no mark, since its serial is a new one. -/
theorem State.abortMark_entry {s : State} (hk : s.strokePlaced) {lane : Lane} (hl : lane.val < s.web.lanes) :
    (s.web.entry s.mode lane).onProduct s.abortMark = s.web.entry s.mode lane := by
  rcases he : s.web.entry s.mode lane with p | _ | _
  · obtain ⟨hi, hs⟩ := WebTrack.entry_eq_product _ _ hl he
    refine congrArg Record.product (State.abortMark_of_not_captured fun n hn => ?_)
    have hne : s.stroke.phase ≠ .idle := fun h => by
      rw [State.captured_of_stroke? (State.stroke?_of_idle h)] at hn
      cases hn
    obtain ⟨⟨hw, -⟩, hserial, hcap⟩ := hk hne
    obtain ⟨h0, h1, h2, -⟩ := (State.captureInv_iff s).mp hcap n _ hn
    have hb := s.web.issuesBelow_le s.mode
    have hlt := s.web.issuesBelow_lt s.mode hi lane.isLt
    have hN := hw.lanes_le
    exact serialAfterIssues_ne hserial.1 h0 h1 (by omega) hs.symm
  · rfl
  · rfl

/-- The state between the Verdict Unit's work and the gate's (R21). -/
def State.aborted (s : State) (now : Time) (cards : Quad Bool) : State :=
  ((s.shifted now).verdictIndex cards).abortStroke now

section
variable {s : State} (now : Time) (cards : Quad Bool)

theorem State.verdictIndex_stroke (s : State) : (s.verdictIndex cards).stroke = s.stroke := by
  rw [State.verdictIndex_eq]
  rfl

theorem State.verdictIndex_abortMark : ((s.shifted now).verdictIndex cards).abortMark = s.abortMark := by
  funext p
  unfold State.abortMark
  rw [State.verdictIndex_stroke]
  rfl

/-- R98: an abort marks every target and changes no other record. -/
theorem State.abortStroke_web {v : State} (h : v.stroke.phase ≠ .idle → v.serialInv) :
    (v.abortStroke now).web = { v.web with rows := changeAll v.abortMark v.web.rows } := by
  unfold State.abortStroke
  split
  · rename_i k hk
    have hne : v.stroke.phase ≠ .idle := fun hi => by
      rw [State.stroke?_of_idle hi] at hk
      cases hk
    obtain ⟨-, -, hu, hc⟩ := h hne
    have hu : serialsUnique v.web.rows := hu
    rw [State.endStroke_eq, Stroke.writeTargets_abort hu fun n n' x => hc k n n' x hk, State.abortMark_of_stroke hk]
    rfl
  · rename_i hk
    rw [State.abortMark_of_idle hk, changeAll_self]

/-- R18, R21: the rows after a taken index: shifted, the stroke's targets marked, windows closed and cards sampled. -/
theorem State.aborted_rows (hw : s.web.shaped) (hk : s.strokePlaced) (lane : Lane) :
    (s.aborted now cards).web.rows.get lane =
      if lane.val < s.web.lanes then
        (s.web.entry s.mode lane :: (s.web.rows.get lane).dropLast.map (Record.onProduct s.abortMark)).mapIdx fun slot r =>
          r.onProduct (Product.brought s.verdict.stations (cards.get lane) slot)
      else [] := by
  have hinv : ((s.shifted now).verdictIndex cards).stroke.phase ≠ .idle →
      ((s.shifted now).verdictIndex cards).serialInv := by
    rw [State.verdictIndex_stroke]
    intro hne
    obtain ⟨hg, hs, -⟩ := hk hne
    exact (State.verdictIndex_keeps _ cards).serialInv (State.shifted_serialInv hg hs now)
  rw [State.aborted, State.abortStroke_web now hinv, State.verdictIndex_abortMark, changeAll_get]
  have hrow : ((s.shifted now).verdictIndex cards).web.rows.get lane =
      ((s.shifted now).web.rows.get lane).mapIdx fun slot r =>
        r.onProduct (Product.brought s.verdict.stations (cards.get lane) slot) := by
    rw [State.verdictIndex_eq]
    simp only [State.setEvents_web, State.setRows_web, State.broughtRows, Quad.get_ofFn]
    rfl
  rw [hrow]
  split
  · rename_i hl
    have hmark : s.web.entry s.mode lane :: (s.web.rows.get lane).dropLast.map (Record.onProduct s.abortMark) =
        (s.web.entry s.mode lane :: (s.web.rows.get lane).dropLast).map (Record.onProduct s.abortMark) := by
      rw [List.map_cons, State.abortMark_entry hk hl]
    rw [State.shifted_row now hl, hmark]
    apply List.ext_getElem?
    intro slot
    simp only [List.getElem?_map, List.getElem?_mapIdx, Option.map_map]
    congr 1
    funext r
    simp [State.abortMark_brought]
  · rename_i hl
    simp [State.shifted_web, hl, hw.rows_get_of_le (Nat.not_lt.mp hl)]

end

/-! ## The gate's work at an index (R105, R111, R112, R114, R115) -/

theorem lanesBelow_succ (n : Lane) : lanesBelow (n.val + 1) = lanesBelow n.val ++ [n] := by
  fin_cases n <;> rfl

theorem lanesBelow_length {n : Nat} (h : n ≤ 4) : (lanesBelow n).length = n := by
  interval_cases n <;> rfl

/-- R115: an entry appended to the newest 64 of a list leaves the newest 64. -/
theorem appendEntry_newest (l : List LogEntry) (e : LogEntry) :
    appendEntry (l.drop (l.length - 64)) e = (l ++ [e]).drop ((l ++ [e]).length - 64) := by
  unfold appendEntry
  rw [List.length_drop, List.length_append, List.length_singleton]
  split
  · rw [show l.length - 64 = 0 by omega, show l.length + 1 - 64 = 0 by omega]
    rfl
  · rw [List.tail_drop, show l.length - 64 + 1 = l.length + 1 - 64 by omega,
      List.drop_append_of_le_length (by omega)]

theorem dispositionOf_eq (causes : List Cause) :
    dispositionOf causes = if causes = [] then .accepted else .rejected := by
  cases causes <;> rfl

theorem Gate.eq_of_fields {g g' : Gate} (hp : g.pulses = g'.pulses) (hw : g.rejectWidth = g'.rejectWidth)
    (hr : g.reportPort = g'.reportPort) (hl : g.log = g'.log) (hs : g.nextSeq = g'.nextSeq) : g = g' := by
  cases g
  cases g'
  simp_all

/-- R111, R114: the decision on a lane with a record at the gate slot. -/
theorem State.decideLane_eq {s : State} {lane : Lane} {r : Record}
    (h : s.recordAt lane (s.web.length - 1) = some r) (now : Time) :
    s.decideLane now lane =
      s.setGate
        { s.gate with
          pulses := s.gate.pulses.set lane
            (if causesOf s.verdict.stations s.store r = [] then s.gate.pulses.get lane
             else some (now + ms s.gate.rejectWidth))
          log := appendEntry s.gate.log
            (logEntryOf s.gate.nextSeq s.web.indexCount lane r (causesOf s.verdict.stations s.store r))
          nextSeq := s.gate.nextSeq + 1 } := by
  unfold State.recordAt at h
  simp only [State.decideLane, h]
  cases causesOf s.verdict.stations s.store r <;> rfl

section
variable (s : State) (now : Time) (brought : Lane → Record)

/-- The causes for which the gate rejects a lane's record (R108, R109). -/
def State.gateCauses (lane : Lane) : List Cause := causesOf s.verdict.stations s.store (brought lane)

/-- R114: the entry of a lane's decision at an index. -/
def State.gateEntry (lane : Lane) : LogEntry :=
  logEntryOf (s.gate.nextSeq + BitVec.ofNat 32 lane.val) s.web.indexCount lane (brought lane) (s.gateCauses brought lane)

/-- R114: the log with the entries of the lanes below `n`, before the oldest leave. -/
def State.gateLog (n : Nat) : List LogEntry := s.gate.log ++ (lanesBelow n).map (s.gateEntry brought)

/-- The gate once the lanes below `n` have been decided. -/
def State.gateDecided (n : Nat) : Gate where
  pulses := Quad.ofFn fun lane =>
    if lane.val < n ∧ s.gateCauses brought lane ≠ [] then some (now + ms s.gate.rejectWidth) else none
  rejectWidth := s.gate.rejectWidth
  reportPort := s.gate.reportPort
  log := (s.gateLog brought n).drop ((s.gateLog brought n).length - 64)
  nextSeq := s.gate.nextSeq + BitVec.ofNat 32 n

variable {s brought}

theorem State.gateLog_succ (n : Lane) :
    s.gateLog brought (n.val + 1) = s.gateLog brought n.val ++ [s.gateEntry brought n] := by
  simp [State.gateLog, lanesBelow_succ]

/-- One more lane decided. -/
theorem State.decideLane_gateDecided {n : Lane} (h : s.recordAt n (s.web.length - 1) = some (brought n)) :
    (s.setGate (s.gateDecided now brought n.val)).decideLane now n =
      s.setGate (s.gateDecided now brought (n.val + 1)) := by
  rw [State.decideLane_eq (s := s.setGate (s.gateDecided now brought n.val)) h]
  have hpulses : (s.gateDecided now brought n.val).pulses.set n
      (if s.gateCauses brought n = [] then (s.gateDecided now brought n.val).pulses.get n
       else some (now + ms s.gate.rejectWidth)) = (s.gateDecided now brought (n.val + 1)).pulses := by
    apply Quad.ext_get
    intro i
    rw [Quad.get_set]
    by_cases hi : n = i
    · subst hi
      by_cases hc : s.gateCauses brought n = [] <;> simp [State.gateDecided, hc]
    · have hlt : i.val < n.val + 1 ↔ i.val < n.val := by
        have := Fin.val_ne_of_ne hi
        omega
      simp only [State.gateDecided, Quad.get_ofFn, hlt, if_neg hi]
  have hlog : appendEntry (s.gateDecided now brought n.val).log (s.gateEntry brought n) =
      (s.gateDecided now brought (n.val + 1)).log := by
    simp only [State.gateDecided, State.gateLog_succ]
    exact appendEntry_newest _ _
  have hseq : (s.gateDecided now brought n.val).nextSeq + 1 = (s.gateDecided now brought (n.val + 1)).nextSeq := by
    simp only [State.gateDecided]
    rw [BitVec.add_assoc]
    congr 1
    exact (BitVec.ofNat_add n.val 1).symm
  exact congrArg s.setGate (Gate.eq_of_fields hpulses rfl rfl hlog hseq)

theorem State.decideLanes_eq (hlog : s.gate.log.length ≤ 64) {n : Nat} (hn : n ≤ 4)
    (h : ∀ lane : Lane, lane.val < n → s.recordAt lane (s.web.length - 1) = some (brought lane)) :
    (lanesBelow n).foldl (State.decideLane now) s.endPulses = s.setGate (s.gateDecided now brought n) := by
  induction n with
  | zero =>
    have : s.gateDecided now brought 0 = { s.gate with pulses := Quad.fill none } := by
      simp [State.gateDecided, State.gateLog, lanesBelow, lanes4, Nat.sub_eq_zero_of_le hlog]
      rfl
    rw [this]
    rfl
  | succ n ih =>
    have hlanes : lanesBelow (n + 1) = lanesBelow n ++ [⟨n, hn⟩] := lanesBelow_succ ⟨n, hn⟩
    rw [hlanes, List.foldl_append, ih (by omega) fun lane hl => h lane (by omega)]
    exact State.decideLane_gateDecided now (h ⟨n, hn⟩ (Nat.lt_succ_self n))

/-- R105: the gate's work for a handed-on index, in the gate and the events alone. -/
theorem State.gateIndex_eq (s : State) (now : Time) :
    s.gateIndex now = (s.setGate (s.gateIndex now).gate).setEvents (s.gateIndex now).events := by
  have hfold (l : List Lane) (t : State) (ht : ∃ g, t = s.setGate g) :
      ∃ g, l.foldl (State.decideLane now) t = s.setGate g := by
    induction l generalizing t with
    | nil => exact ht
    | cons lane l ih =>
      obtain ⟨g, rfl⟩ := ht
      refine ih _ ?_
      unfold State.decideLane
      split
      · exact ⟨g, rfl⟩
      · exact ⟨_, rfl⟩
  obtain ⟨g, hg⟩ := hfold (lanesBelow s.web.lanes) s.endPulses ⟨_, rfl⟩
  unfold State.gateIndex
  rw [hg, State.raiseAt_eq]
  rfl

theorem State.gateIndex_gate (hlog : s.gate.log.length ≤ 64) (hN : s.web.lanes ≤ 4)
    (h : ∀ lane : Lane, lane.val < s.web.lanes → s.recordAt lane (s.web.length - 1) = some (brought lane)) :
    (s.gateIndex now).gate = s.gateDecided now brought s.web.lanes := by
  unfold State.gateIndex
  rw [State.decideLanes_eq now hlog hN h, State.raiseAt_eq]
  rfl

end

/-! ## A taken index in SETUP, RUN and DRAIN -/

/-- What the abort leaves, on the shifted track and the Verdict Unit's work: everything but the records, the events and,
of a stroke in flight, its phase, its report and the idle pass timer (R98, R101). -/
structure State.abortsFrom (s a : State) (now : Time) : Prop where
  web : a.web = { (s.shifted now).web with rows := a.web.rows }
  verdict : a.verdict = s.verdict
  acq : a.acq =
    if s.stroke.phase = .idle then s.acq
    else { s.acq with idleDue := if s.mode.mode.active then some (now + ms 50) else s.acq.idleDue }
  stroke : a.stroke =
    if s.stroke.phase = .idle then s.stroke else { s.stroke with phase := .idle, report := a.stroke.report }
  gate : a.gate = s.gate
  mode : a.mode = s.mode
  store : a.store = s.store
  ports : a.ports = s.ports
  resetHeld : a.resetHeld = s.resetHeld
  pending : a.pending = s.pending

theorem State.aborted_from (s : State) (now : Time) (cards : Quad Bool) :
    s.abortsFrom (s.aborted now cards) now := by
  unfold State.aborted
  rw [State.verdictIndex_eq]
  generalize (s.shifted now).broughtRows cards = rows
  generalize ((s.shifted now).verdictIndex cards).events = events
  by_cases hi : s.stroke.phase = .idle
  · have hv : (((s.shifted now).setRows rows).setEvents events).abortStroke now =
        ((s.shifted now).setRows rows).setEvents events := by
      have : (((s.shifted now).setRows rows).setEvents events).stroke.phase.stroke? = none :=
        State.stroke?_of_idle (s := s) hi
      rw [State.abortStroke, this]
    rw [hv]
    exact ⟨rfl, rfl, (if_pos hi).symm, (if_pos hi).symm, rfl, rfl, rfl, rfl, rfl, rfl⟩
  · obtain ⟨k, hk⟩ := StrokePhase.exists_stroke hi
    have hv : (((s.shifted now).setRows rows).setEvents events).abortStroke now =
        (((s.shifted now).setRows rows).setEvents events).endStroke now k .aborted k.abortVerdict := by
      have : (((s.shifted now).setRows rows).setEvents events).stroke.phase.stroke? = some k := hk
      rw [State.abortStroke, this]
    rw [hv, State.endStroke_eq]
    exact ⟨rfl, rfl, (if_neg hi).symm, (if_neg hi).symm, rfl, rfl, rfl, rfl, rfl, rfl⟩

/-- What the gate's work and the drain check leave: everything but the gate, the events and, at the end of a drain, the
mode (R105, R133). -/
structure State.gatesFrom (a t : State) (now : Time) : Prop where
  web : t.web = a.web
  verdict : t.verdict = a.verdict
  acq : t.acq = a.acq
  stroke : t.stroke = a.stroke
  gate : t.gate = (a.gateIndex now).gate
  drained : a.mode.mode = .drain ∧ t.noProduct → t.mode = { a.mode with mode := .setup }
  notDrained : ¬(a.mode.mode = .drain ∧ t.noProduct) → t.mode = a.mode
  store : t.store = a.store
  ports : t.ports = a.ports
  resetHeld : t.resetHeld = a.resetHeld
  pending : t.pending = a.pending

theorem State.gateIndex_drainCheck_from (a : State) (now : Time) : a.gatesFrom (a.gateIndex now).drainCheck now := by
  have hg := a.gateIndex_eq now
  generalize (a.gateIndex now).gate = g at hg
  generalize (a.gateIndex now).events = e at hg
  rw [hg]
  obtain ⟨hm, hn, h⟩ | ⟨hn, h⟩ := ((a.setGate g).setEvents e).drainCheck_cases <;> rw [h]
  · exact ⟨rfl, rfl, rfl, rfl, (congrArg State.gate hg).symm, fun _ => rfl, fun h => absurd ⟨hm, hn⟩ h, rfl, rfl, rfl, rfl⟩
  · exact ⟨rfl, rfl, rfl, rfl, (congrArg State.gate hg).symm, fun h => absurd h hn, fun _ => rfl, rfl, rfl, rfl, rfl⟩

/-- A taken index in SETUP, RUN and DRAIN: what it answers, by way of the state that the gate works on. -/
theorem exec_indexEdge_active {s : State} {now : Time} (hr : s.resetHeld = false) (ht : s.edgeTaken now)
    (ha : s.mode.mode.active = true) (cards : Quad Bool) :
    ∃ t, exec (.indexEdge now cards) s = .next t ∧ (s.aborted now cards).gatesFrom t now := by
  refine ⟨_, exec_indexEdge_taken hr ht cards, ?_⟩
  rw [State.takeIndex_active ha]
  exact State.gateIndex_drainCheck_from _ now

section
variable {s : State} (h : ∀ lane ∈ s.entryLanes, (s.mode.assignments.get lane).isSome = true)
include h

/-- R19: where every entry lane is assigned a recipe, the entry lanes are those that take a serial. -/
theorem State.entryLanes_eq : s.entryLanes = lanes4.filter (s.web.issues s.mode) := by
  unfold State.entryLanes at h ⊢
  by_cases hm : s.mode.mode = .run
  · rw [if_pos hm] at h ⊢
    rw [lanesBelow, List.filter_filter]
    refine List.filter_congr fun n _ => ?_
    have hn := h n
    simp only [List.mem_filter, mem_lanesBelow] at hn
    rw [Bool.eq_iff_iff]
    simp only [WebTrack.issues, hm, beq_self_eq_true, Bool.true_and, Bool.and_eq_true, decide_eq_true_eq]
    tauto
  · rw [if_neg hm]
    simp [WebTrack.issues, hm]

theorem State.entryLanes_length : s.entryLanes.length = s.web.issuesBelow s.mode 4 := by
  rw [State.entryLanes_eq h, ← List.countP_eq_length_filter]
  simp [WebTrack.issuesBelow]

theorem State.entryLanes_below_length (k : Nat) :
    (s.entryLanes.filter fun n => n.val < k).length = s.web.issuesBelow s.mode k := by
  rw [State.entryLanes_eq h, List.filter_filter, ← List.countP_eq_length_filter]
  rfl

/-- R19: the entry record of the model is the one that the rule gives. -/
theorem State.entryFor_eq {lane : Lane} (hl : lane.val < s.web.lanes) :
    s.entryFor lane = s.web.entry s.mode lane := by
  have hmem : lane ∈ s.entryLanes ↔ s.mode.mode = .run ∧ s.mode.laneMask.get lane = true := by
    unfold State.entryLanes
    split <;> simp_all
  unfold State.entryFor WebTrack.entry entryRecord
  rcases ha : s.mode.assignments.get lane with _ | recipe
  · simp only []
    split <;> rfl
  · simp only [hmem]
    split
    · rw [State.entryLanes_below_length h]
      rfl
    · rfl

end

/-- Settles O5: the shift, the Verdict Unit's work and the abort give the records; the gate and the drain check leave
them. -/
theorem indexShiftsTrack : Obligations.IndexShiftsTrack := by
  intro now cards s hr ht hact hw hk hentry
  obtain ⟨t, hexec, hgate⟩ := exec_indexEdge_active hr ht hact cards
  have habort := s.aborted_from now cards
  refine ⟨t, hexec, ?_, fun hi => ⟨?_, ?_⟩, fun hi => ⟨?_, ?_⟩, fun hd => ?_, fun hd => ?_,
    hgate.verdict.trans habort.verdict, hgate.store.trans habort.store, hgate.ports.trans habort.ports,
    hgate.resetHeld.trans habort.resetHeld, hgate.pending.trans habort.pending⟩
  · have hrows : (s.aborted now cards).web.rows = Quad.ofFn fun lane =>
        if lane.val < s.web.lanes then
          (s.entryFor lane :: (s.web.rows.get lane).dropLast.map (Record.onProduct s.abortMark)).mapIdx fun slot r =>
            r.onProduct (Product.brought s.verdict.stations (cards.get lane) slot)
        else [] := by
      apply Quad.ext_get
      intro lane
      rw [State.aborted_rows now cards hw hk, Quad.get_ofFn]
      split
      · rename_i hl
        rw [State.entryFor_eq hentry hl]
      · rfl
    rw [hgate.web, habort.web, State.shifted_web, State.entryLanes_length hentry, hrows]
  · rw [hgate.acq, habort.acq, if_pos hi]
  · rw [hgate.stroke, habort.stroke, if_pos hi]
  · rw [hgate.acq, habort.acq, if_neg hi, hact]
    rfl
  · rw [hgate.stroke, habort.stroke, if_neg hi]
  · rw [hgate.drained (habort.mode ▸ hd), habort.mode]
  · rw [hgate.notDrained (habort.mode ▸ hd), habort.mode]

/-! ## The record at the gate -/

/-- R155: no window closes and no card is sampled at the gate slot. -/
theorem Product.brought_gate {m : StationMap} {slot length : Nat} (hm : m.placed length) (hs : slot + 1 = length)
    (high : Bool) (p : Product) : p.brought m high slot = p := by
  obtain ⟨hst, hcard, -⟩ := hm
  have hclose (st : PortStation) (q : Product) : q.closeAt m st slot = q := by
    refine if_neg ?_
    rintro ⟨he, hs, -⟩
    have := (hst st he).2
    omega
  have hsample (q : Product) : q.sampleAt m high slot = q := by
    refine if_neg ?_
    rintro ⟨he, hs, -⟩
    have := hcard he
    omega
  rw [Product.brought_eq, hclose, hclose, hclose, hclose, hsample]

/-- R98, R155: a target of the stroke in flight stands too far upstream for this index to bring it to the gate. -/
theorem State.abortMark_gate {s : State} (hk : s.strokePlaced) {lane : Lane} {p : Product}
    (hp : s.recordAt lane (s.web.length - 2) = some (.product p)) : s.abortMark p = p := by
  refine State.abortMark_of_not_captured fun n hn => ?_
  have hne : s.stroke.phase ≠ .idle := fun h => by
    rw [State.captured_of_stroke? (State.stroke?_of_idle h)] at hn
    cases hn
  obtain ⟨⟨hw, ⟨-, -, hseal⟩, -⟩, -, hcap⟩ := hk hne
  obtain ⟨-, -, -, hat⟩ := (State.captureInv_iff s).mp hcap n _ hn
  obtain ⟨-, he, hslot⟩ := hat lane _ (State.serialAt_eq_some.mpr ⟨p, hp, rfl⟩)
  have := hseal he
  omega

/-- R18, R21: a record that stays is found one slot on, marked if it is a target, and with the windows and cards of its
new slot. -/
theorem State.aborted_recordAt_succ {s : State} (hw : s.web.shaped) (hk : s.strokePlaced) (now : Time)
    (cards : Quad Bool) {lane : Lane} {slot : Nat} (hl : lane.val < s.web.lanes) (hs : slot + 1 < s.web.length) :
    (s.aborted now cards).recordAt lane (slot + 1) =
      (s.recordAt lane slot).map fun r =>
        (r.onProduct s.abortMark).onProduct (Product.brought s.verdict.stations (cards.get lane) (slot + 1)) := by
  have hlen := hw.rows_length hl
  rw [State.recordAt, State.aborted_rows now cards hw hk, if_pos hl, List.getElem?_mapIdx, List.getElem?_cons_succ,
    List.getElem?_map, List.getElem?_dropLast, if_pos (by omega), Option.map_map]
  rfl

/-- R20, R21: the record that an index brings to the gate slot is the one that stood before it, untouched. -/
theorem State.aborted_recordAt_gate {s : State} (hg : s.geometryInv) (hk : s.strokePlaced) (now : Time)
    (cards : Quad Bool) {lane : Lane} (hl : lane.val < s.web.lanes) :
    (s.aborted now cards).recordAt lane (s.web.length - 1) = s.recordAt lane (s.web.length - 2) := by
  obtain ⟨hw, hm, -⟩ := hg
  have hL := hw.le_length
  have hslot : s.web.length - 1 = s.web.length - 2 + 1 := by omega
  rw [hslot, State.aborted_recordAt_succ hw hk now cards hl (by omega)]
  rcases hr : s.recordAt lane (s.web.length - 2) with _ | r
  · rfl
  · cases r with
    | product p =>
      simp only [Option.map_some, Record.onProduct, State.abortMark_gate hk hr,
        Product.brought_gate hm (show s.web.length - 2 + 1 + 1 = s.web.length by omega)]
    | void => rfl
    | untracked => rfl

/-- R1: a record stands at every slot of every lane in use. -/
theorem WebTrack.shaped.exists_recordAt {s : State} (h : s.web.shaped) {lane : Lane} (hl : lane.val < s.web.lanes)
    {slot : Nat} (hs : slot < s.web.length) : ∃ r, s.recordAt lane slot = some r :=
  ⟨_, List.getElem?_eq_getElem (h.rows_length hl ▸ hs)⟩

/-- The record that the next index brings to the gate slot of a lane. -/
def State.beforeGate (s : State) (lane : Lane) : Record := (s.recordAt lane (s.web.length - 2)).getD .void

theorem State.recordAt_beforeGate {s : State} (h : s.web.shaped) {lane : Lane} (hl : lane.val < s.web.lanes) :
    s.recordAt lane (s.web.length - 2) = some (s.beforeGate lane) := by
  have hL := h.le_length
  obtain ⟨r, hr⟩ := h.exists_recordAt hl (show s.web.length - 2 < s.web.length by omega)
  simp [State.beforeGate, hr]

/-- R111, R114, R115: the gate after a taken index. -/
theorem State.gatesFrom.gate_eq {s t : State} {now : Time} {cards : Quad Bool}
    (h : (s.aborted now cards).gatesFrom t now) (hg : s.geometryInv) (hlog : s.gate.logInv) (hk : s.strokePlaced) :
    t.gate = (s.aborted now cards).gateDecided now s.beforeGate s.web.lanes := by
  have habort := s.aborted_from now cards
  have hlanes : (s.aborted now cards).web.lanes = s.web.lanes := by rw [habort.web, State.shifted_web]
  have hlength : (s.aborted now cards).web.length = s.web.length := by rw [habort.web, State.shifted_web]
  rw [h.gate, ← hlanes]
  refine State.gateIndex_gate now (habort.gate ▸ hlog.1) (hlanes ▸ hg.1.lanes_le) fun lane hl => ?_
  rw [hlength, State.aborted_recordAt_gate hg hk now cards (hlanes ▸ hl), State.recordAt_beforeGate hg.1 (hlanes ▸ hl)]

/-- Settles O7: the gate finds the records that stood at the last slot but one, and decides them lane by lane. -/
theorem indexDecidesAtGate : Obligations.IndexDecidesAtGate := by
  intro now cards s hr ht hact hg hlog hk
  have hk : s.strokePlaced := fun hne => ⟨hg, hk hne⟩
  have hN := hg.1.lanes_le
  obtain ⟨t, hexec, hgate⟩ := exec_indexEdge_active hr ht hact cards
  have habort := s.aborted_from now cards
  have hcount : (s.aborted now cards).web.indexCount = s.web.indexCount + 1 := by rw [habort.web, State.shifted_web]
  have hcauses (lane : Lane) : (s.aborted now cards).gateCauses s.beforeGate lane =
      causesOf s.verdict.stations s.store (s.beforeGate lane) := by
    rw [State.gateCauses, habort.verdict, habort.store]
  have hlen : ((s.aborted now cards).gateLog s.beforeGate s.web.lanes).length = s.gate.log.length + s.web.lanes := by
    simp [State.gateLog, habort.gate, lanesBelow_length hN]
  have hgateEq := hgate.gate_eq hg hlog hk
  refine ⟨t, hexec, ?_, ?_, ?_, fun lane hl => ?_, s.beforeGate,
    fun lane hl => ⟨State.recordAt_beforeGate hg.1 hl, ?_, ?_⟩, ?_⟩
  · rw [hgateEq, State.gateDecided, habort.gate]
  · rw [hgateEq, State.gateDecided, habort.gate]
  · rw [hgateEq, State.gateDecided, habort.gate]
  · simp [hgateEq, State.gateDecided, Nat.not_lt.mpr hl]
  · have hat := State.aborted_recordAt_gate hg hk now cards hl
    rw [State.recordAt, hgate.web]
    exact hat.trans (State.recordAt_beforeGate hg.1 hl)
  · simp [hgateEq, State.gateDecided, hl, hcauses, habort.gate]
  · rw [hgateEq]
    simp only [State.gateDecided, hlen]
    rw [State.gateLog, habort.gate]
    congr 2
    refine List.map_congr_left fun lane _ => ?_
    rw [State.gateEntry, habort.gate, hcount, hcauses, logEntryOf, dispositionOf_eq]
    rcases s.beforeGate lane with p | _ | _
    · rcases hd : p.heatSeal <;> simp only [Record.product?, Option.map_some, Option.bind_some, hd] <;> rfl
    · rfl
    · rfl

end Sys2Proof.Machine
end

section
/-! # The requests of the Verdict Unit

Proofs of the statements about field masks, Post Verdict and holds (chapter 2): for each request one lemma per check that
refuses it and one for what it does, met by `exec_request`. -/

namespace Sys2Proof.Machine
open Sys2Proof

/-- A request on an idle port answers what its owning block makes of it. -/
theorem exec_request {s t : State} {port : Port} (h : s.portIdle port) (now : Time) {r : Request} {st : Status}
    {data : List Byte} (ht : takeRequest now port r s = (t, { status := st, data := data })) :
    exec (r.command now port) s = .next (t.answering port r.code st data) := by
  rw [exec_command_idle h, ht]

/-- A lane parameter read as a lane names that lane. -/
theorem laneOf_sound {lanes : Nat} {b : Byte} {n : Lane} (h : laneOf lanes b = some n) :
    b.toNat = n.val ∧ n.val < lanes := by
  unfold laneOf at h
  split at h
  · rename_i hb
    obtain ⟨h4, hl⟩ := hb
    obtain rfl := Option.some.inj h
    have hval : (Fin.ofNat 4 b.toNat).val = b.toNat := Nat.mod_eq_of_lt h4
    exact ⟨hval.symm, hval.trans_lt hl⟩
  · cases h

theorem byteOf_lane_toNat (n : Lane) : (byteOf n.val).toNat = n.val := by
  have := n.isLt
  simp only [byteOf, BitVec.toNat_ofNat]
  omega

/-! ## Field masks (R57, R58) -/

/-- R181: a mask byte has no bit 2, 3 or 7. -/
theorem maskByteOk_iff (b : Byte) :
    maskByteOk b = true ↔ ¬(b.getLsbD 2 = true ∨ b.getLsbD 3 = true ∨ b.getLsbD 7 = true) := by
  revert b
  decide

/-- R181: the bits of a mask byte, as weights. -/
theorem FieldMask.code_eq (m : FieldMask) :
    m.code = BitVec.ofNat 8
      ((if m.form then 1 else 0) + (if m.load then 2 else 0) + (if m.inspect then 16 else 0) +
        (if m.aux then 32 else 0) + if m.hold then 64 else 0) := by
  obtain ⟨form, load, inspect, aux, hold⟩ := m
  revert form load inspect aux hold
  decide

theorem portOf_eq_some {b : Byte} (h : b.toNat < 4) : portOf b = some (Fin.ofNat 4 b.toNat) := if_pos h

theorem portOf_eq_none {b : Byte} (h : 4 ≤ b.toNat) : portOf b = none := if_neg (Nat.not_lt.mpr h)

section
variable {s : State} {target lane mask : Byte}

theorem takeSetPortMask_waking (hm : s.mode.mode = .waking) :
    takeSetPortMask target lane mask s = (s, Reply.refuse .busy) := if_pos hm

theorem takeSetPortMask_wrongMode (hm : s.mode.mode ≠ .waking) (hs : s.mode.mode ≠ .setup) :
    takeSetPortMask target lane mask s = (s, Reply.refuse .wrongMode) := (if_neg hm).trans (if_pos hs)

/-- R57: any one of the three parameters out of its range is a BAD_VALUE. -/
theorem takeSetPortMask_badValue (hs : s.mode.mode = .setup)
    (h : 4 ≤ target.toNat ∨ s.web.lanes ≤ lane.toNat ∨ maskByteOk mask = false) :
    takeSetPortMask target lane mask s = (s, Reply.refuse .badValue) := by
  simp only [takeSetPortMask, hs, ne_eq, not_true_eq_false, reduceCtorEq, if_false]
  rcases hp : portOf target with _ | p
  · rfl
  · rcases hl : laneOf s.web.lanes lane with _ | n
    · rfl
    · obtain ⟨heq, hlt⟩ := laneOf_sound hl
      obtain h | h | h := h
      · simp [portOf_eq_none h] at hp
      · omega
      · simp [h]

/-- R57: the port's mask for the lane is replaced as a whole. -/
theorem takeSetPortMask_ok (hs : s.mode.mode = .setup) (hw : s.web.shaped) (ht : target.toNat < 4)
    (hl : lane.toNat < s.web.lanes) (hk : maskByteOk mask = true) :
    takeSetPortMask target lane mask s =
      (s.setVerdict
        { s.verdict with
          masks := s.verdict.masks.set (Fin.ofNat 4 target.toNat)
            ((s.verdict.masks.get (Fin.ofNat 4 target.toNat)).set (Fin.ofNat 4 lane.toNat) (fieldMaskOf mask)) },
        Reply.ok []) := by
  simp only [takeSetPortMask, hs, ne_eq, not_true_eq_false, reduceCtorEq, if_false, portOf_eq_some ht,
    laneOf_of_lt hw.lanes_le hl, hk, Bool.not_true, Bool.false_eq_true]
  rfl

theorem takeReadPortMask_badValue (h : 4 ≤ target.toNat) :
    takeReadPortMask target s = (s, Reply.refuse .badValue) := by
  simp only [takeReadPortMask, portOf_eq_none h]

theorem takeReadPortMask_ok (h : target.toNat < 4) :
    takeReadPortMask target s =
      (s, Reply.ok (byteOf s.web.lanes ::
        (lanesBelow s.web.lanes).map fun n => ((s.verdict.masks.get (Fin.ofNat 4 target.toNat)).get n).code)) := by
  simp only [takeReadPortMask, portOf_eq_some h, Quad.take_eq, List.map_map, Function.comp_def]

end

/-- Settles O18: the checks in their order, and the mask byte's bits. -/
theorem portMaskRequests : Obligations.PortMaskRequests := by
  refine ⟨fun now port target lane mask s hp hw => ?_, fun now port target s hp => ?_⟩
  · have hexec {t st data} := exec_request (t := t) (st := st) (data := data) hp now (r := .setPortMask target lane mask)
    split
    · rename_i hm
      exact hexec (takeSetPortMask_waking hm)
    · rename_i hm
      split
      · rename_i hs
        exact hexec (takeSetPortMask_wrongMode hm hs)
      · rename_i hs
        have hs := not_not.mp hs
        have hmask := maskByteOk_iff mask
        split
        · rename_i hv
          refine hexec (takeSetPortMask_badValue hs ?_)
          rwa [← Bool.not_eq_true, hmask, not_not]
        · rename_i hv
          obtain ⟨ht, hv⟩ := not_or.mp hv
          obtain ⟨hl, hk⟩ := not_or.mp hv
          exact hexec (takeSetPortMask_ok hs hw (Nat.not_le.mp ht) (Nat.not_le.mp hl) (hmask.mpr hk))
  · have hexec {t st data} := exec_request (t := t) (st := st) (data := data) hp now (r := .readPortMask target)
    split
    · rename_i ht
      exact hexec (takeReadPortMask_badValue ht)
    · rename_i ht
      simp only [← FieldMask.code_eq]
      exact hexec (takeReadPortMask_ok (Nat.not_le.mp ht))

/-! ## Post Verdict (R42 to R49) -/

theorem portStationOf_sound {b : Byte} {st : PortStation} (h : portStationOf b = some st) : b = st.code := by
  apply BitVec.eq_of_toNat_eq
  unfold portStationOf at h
  split at h
  case h_5 => cases h
  all_goals
    rename_i hb
    cases h
    exact hb

/-- R43: the model's test of a value and detail, in the terms of the statements. -/
theorem postValueOk_iff (st : PortStation) (value detail : Byte) :
    postValueOk st value detail = true ↔ st.takes value detail := by
  cases st
  case load =>
    simp only [postValueOk, PortStation.takes, Bool.and_eq_true, decide_eq_true_eq, beq_iff_eq]
    exact and_congr_left' Nat.lt_succ_iff
  all_goals simp [postValueOk, PortStation.takes]

section
variable {s : State} {port : Port} {station lane : Byte} {serial : Serial} {value detail : Byte}

/-- R42, R43: parameters that pass the second check name a station and a lane. -/
theorem postTarget_eq_some {st : PortStation} {n : Lane} (hst : station = st.code)
    (he : (s.verdict.stations.entry st).enabled = true) (hl : lane.toNat = n.val) (hn : n.val < s.web.lanes)
    (hs : serial ≠ 0) (hv : st.takes value detail) :
    postTarget s station lane serial value detail = some (st, n) := by
  simp only [postTarget, hst, portStationOf_code, laneOf_eq_some hl hn, he, bne_iff_ne.mpr hs,
    (postValueOk_iff st value detail).mpr hv, Bool.and_self, if_true]

theorem postTarget_eq_none
    (h : ¬∃ st : PortStation, station = st.code ∧ (s.verdict.stations.entry st).enabled = true ∧
      lane.toNat < s.web.lanes ∧ serial ≠ 0 ∧ st.takes value detail) :
    postTarget s station lane serial value detail = none := by
  unfold postTarget
  split
  · rename_i st n hst hl
    refine if_neg fun hc => h ⟨st, portStationOf_sound hst, ?_⟩
    obtain ⟨heq, hlt⟩ := laneOf_sound hl
    simp only [Bool.and_eq_true, bne_iff_ne, postValueOk_iff] at hc
    obtain ⟨⟨he, hs⟩, hv⟩ := hc
    exact ⟨he, heq ▸ hlt, hs, hv⟩
  · rfl

theorem takePostVerdict_waking (hm : s.mode.mode = .waking) :
    takePostVerdict port station lane serial value detail s = (s, Reply.refuse .busy) := if_pos hm

theorem takePostVerdict_badValue (hm : s.mode.mode ≠ .waking)
    (ht : postTarget s station lane serial value detail = none) :
    takePostVerdict port station lane serial value detail s = (s, Reply.refuse .badValue) := by
  simp only [takePostVerdict, hm, if_false, ht]

variable {st : PortStation} {n : Lane} (hm : s.mode.mode ≠ .waking)
  (ht : postTarget s station lane serial value detail = some (st, n))
include hm ht

theorem takePostVerdict_denied (hd : ((s.verdict.masks.get port).get n).permits st = false) :
    takePostVerdict port station lane serial value detail s = (s, Reply.refuse .denied) := by
  simp only [takePostVerdict, hm, if_false, ht, hd, Bool.not_false, if_true]

theorem takePostVerdict_notFound (hd : ((s.verdict.masks.get port).get n).permits st = true)
    (hf : findInRow serial (s.web.rows.get n) = none) :
    takePostVerdict port station lane serial value detail s = (s, Reply.refuse .notFound) := by
  simp only [takePostVerdict, hm, if_false, ht, hd, Bool.not_true, Bool.false_eq_true, hf]

theorem takePostVerdict_found (hd : ((s.verdict.masks.get port).get n).permits st = true) {slot : Nat} {p : Product}
    (hf : findInRow serial (s.web.rows.get n) = some (slot, p)) :
    takePostVerdict port station lane serial value detail s = postRecord s st n slot p value detail := by
  simp only [takePostVerdict, hm, if_false, ht, hd, Bool.not_true, Bool.false_eq_true, hf]

end

/-- Settles O15: the checks in their order. -/
theorem postVerdictRefusedBeforeRecord : Obligations.PostVerdictRefusedBeforeRecord := by
  intro now port station lane serial value detail s hp hw
  have hexec {t st data} := exec_request (t := t) (st := st) (data := data) hp now
    (r := .postVerdict station lane serial value detail)
  refine ⟨fun hm => hexec (takePostVerdict_waking hm),
    fun hm hnone => hexec (takePostVerdict_badValue hm (postTarget_eq_none hnone)), ?_⟩
  intro st n hm hst he hl hn hs hv
  have ht := postTarget_eq_some hst he hl hn hs hv
  exact ⟨fun hd => hexec (takePostVerdict_denied hm ht hd),
    fun hd hnone => hexec (takePostVerdict_notFound hm ht hd (findInRow_eq_none hnone))⟩

/-- R12: the search of a lane finds the record that carries the serial. -/
theorem State.serialInv.findInRow_eq {s : State} (hs : s.serialInv) {lane : Lane} {slot : Nat} {p : Product}
    (h : s.recordAt lane slot = some (.product p)) : findInRow p.serial (s.web.rows.get lane) = some (slot, p) := by
  obtain ⟨-, -, hunique, -⟩ := hs
  exact findInRow_eq_some h rfl fun k q hq he => (hunique lane k q lane slot p hq h he).2

/-- R11: no record on the track carries serial 0. -/
theorem State.serialInv.serial_ne_zero {s : State} (hs : s.serialInv) {lane : Lane} {slot : Nat} {p : Product}
    (h : s.recordAt lane slot = some (.product p)) : p.serial ≠ 0 := by
  obtain ⟨-, hage, -, -⟩ := hs
  exact (hage lane slot p h).1

/-- R9: a change to the PRODUCT record at a position, as the record put there. -/
theorem State.changeAt_eq {s : State} {lane : Lane} {slot : Nat} {p : Product}
    (h : s.recordAt lane slot = some (.product p)) (f : Product → Product) :
    changeAt s.web.rows lane slot f = s.web.rows.set lane ((s.web.rows.get lane).set slot (.product (f p))) :=
  congrArg (s.web.rows.set lane) (modify_onProduct f h)

/-- R49: the count that a Load post writes. -/
theorem postedLoad_eq (recipe : Option Recipe) (count : Byte) :
    postedLoad recipe count = if recipe.map (·.items) = some count.toNat then .pass count else .fail count := by
  cases recipe <;> simp [postedLoad, eq_comm]

/-- R48, R49: what a post makes of a record, station by station. -/
theorem Product.post_eq (p : Product) (recipe : Option Recipe) (st : PortStation) (value detail : Byte) :
    p.post recipe st value detail =
      match st with
      | .form => { p with form := if value = 1 then .pass else .fail detail }
      | .load =>
        { p with load := if recipe.map (·.items) = some value.toNat then .pass value else .fail value }
      | .inspect => { p with inspect := if value = 1 then .pass else .fail detail }
      | .aux => { p with aux := if value = 1 then .pass else .fail detail } := by
  cases st
  case load => simp only [Product.post, postedLoad_eq]
  all_goals rfl

/-- Settles O16: checks 5 to 7 on the record that the search finds, and the write. -/
theorem postVerdictAtRecord : Obligations.PostVerdictAtRecord := by
  intro now port st lane value detail slot p s hp hg hs hm he hv hd hr
  have hexec {t stat data} := exec_request (t := t) (st := stat) (data := data) hp now
    (r := .postVerdict st.code (byteOf lane.val) p.serial value detail)
  have ht := postTarget_eq_some rfl he (byteOf_lane_toNat lane) (hg.1.lane_lt hr) (hs.serial_ne_zero hr) hv
  have htake := takePostVerdict_found hm ht hd (hs.findInRow_eq hr)
  split
  · rename_i hearly
    exact hexec (htake.trans (if_pos hearly))
  · rename_i hearly
    split
    · rename_i hlate
      exact hexec (htake.trans ((if_neg hearly).trans (if_pos hlate)))
    · rename_i hlate
      split
      · rename_i hu
        exact hexec (htake.trans ((if_neg hearly).trans ((if_neg hlate).trans (if_pos (by simp [hu])))))
      · rename_i hu
        have hnone : ¬(!p.unwritten st) = true := by simpa using hu
        have hexec := hexec (htake.trans ((if_neg hearly).trans ((if_neg hlate).trans (if_neg hnone))))
        simp only [State.changeAt_eq hr, Product.post_eq] at hexec
        exact hexec

/-! ## Holds (R53, R54) -/

/-- Set Hold, or Clear Hold. -/
def holdRequestFor (set : Bool) (lane : Byte) (serial : Serial) : Request :=
  if set then .setHold lane serial else .clearHold lane serial

/-- R53, R54: what either request does with the record it finds before the gate slot. -/
def holdOutcome (set : Bool) (port : Port) (s : State) (n : Lane) (slot : Nat) (p : Product) : State × Reply :=
  if p.hold.isSome = set then (s, { status := .already, data := holdData slot p.hold })
  else
    (s.setRows (changeAt s.web.rows n slot fun q => { q with hold := if set then some port else none }),
      Reply.ok (holdData slot (if set then some port else none)))

/-- The two hold requests share their checks, and differ in the Hold they leave. -/
theorem takeRequest_hold (now : Time) (port : Port) (set : Bool) (lane : Byte) (serial : Serial) (s : State) :
    takeRequest now port (holdRequestFor set lane serial) s =
      holdRequest port lane serial s (holdOutcome set port s) := by
  cases set
  · refine congrArg (holdRequest port lane serial s) (funext fun n => funext fun slot => funext fun p => ?_)
    cases hh : p.hold <;> simp [holdOutcome, hh]
  · rfl

/-- A hold request on an idle port answers what the shared checks make of it. -/
theorem exec_hold {s t : State} {port : Port} (hp : s.portIdle port) (now : Time) {set : Bool} {lane : Byte}
    {serial : Serial} {st : Status} {data : List Byte}
    (h : holdRequest port lane serial s (holdOutcome set port s) = (t, { status := st, data := data })) :
    exec (if set then .setHold now port lane serial else .clearHold now port lane serial) s =
      .next (t.answering port (if set then 0x21 else 0x22) st data) := by
  have hexec := exec_request hp now ((takeRequest_hold now port set lane serial s).trans h)
  cases set <;> exact hexec

section
variable {s : State} {port : Port} {lane : Byte} {serial : Serial} {act : Lane → Nat → Product → State × Reply}

theorem holdRequest_waking (hm : s.mode.mode = .waking) :
    holdRequest port lane serial s act = (s, Reply.refuse .busy) := if_pos hm

theorem holdRequest_badValue (hm : s.mode.mode ≠ .waking) (h : s.web.lanes ≤ lane.toNat ∨ serial = 0) :
    holdRequest port lane serial s act = (s, Reply.refuse .badValue) := by
  simp only [holdRequest, hm, if_false]
  rcases hl : laneOf s.web.lanes lane with _ | n
  · rfl
  · obtain ⟨heq, hlt⟩ := laneOf_sound hl
    exact if_pos (h.resolve_left (by omega))

variable {n : Lane} (hm : s.mode.mode ≠ .waking) (hl : lane.toNat = n.val) (hn : n.val < s.web.lanes)
  (hs : serial ≠ 0)
include hm hl hn hs

theorem holdRequest_denied (hd : ((s.verdict.masks.get port).get n).hold = false) :
    holdRequest port lane serial s act = (s, Reply.refuse .denied) := by
  simp only [holdRequest, hm, if_false, laneOf_eq_some hl hn, hs, hd, Bool.not_false, if_true]

variable (hd : ((s.verdict.masks.get port).get n).hold = true)
include hd

theorem holdRequest_notFound (hf : findInRow serial (s.web.rows.get n) = none) :
    holdRequest port lane serial s act = (s, Reply.refuse .notFound) := by
  simp only [holdRequest, hm, if_false, laneOf_eq_some hl hn, hs, hd, Bool.not_true, Bool.false_eq_true, hf]

/-- R53, R54: the record found is past its gate decision, or the request acts on it. -/
theorem holdRequest_found {slot : Nat} {p : Product} (hf : findInRow serial (s.web.rows.get n) = some (slot, p)) :
    holdRequest port lane serial s act =
      if s.web.length ≤ slot + 1 then (s, { status := .tooLate, data := holdData slot p.hold }) else act n slot p := by
  simp only [holdRequest, hm, if_false, laneOf_eq_some hl hn, hs, hd, Bool.not_true, Bool.false_eq_true, hf]

end

/-- Settles O17: the checks that both requests share, in their order, and the Hold each leaves. -/
theorem holdRequests : Obligations.HoldRequests := by
  intro now port lane serial s hp hg hsi set command code
  refine ⟨fun hm => exec_hold hp now (holdRequest_waking hm),
    fun hm hv => exec_hold hp now (holdRequest_badValue hm hv), fun n hm hl hn hs => ⟨fun hd => ?_, fun hd hnone => ?_, ?_⟩⟩
  · exact exec_hold hp now (holdRequest_denied hm hl hn hs hd)
  · exact exec_hold hp now (holdRequest_notFound hm hl hn hs hd (findInRow_eq_none hnone))
  · rintro slot p hd hr rfl
    have hlt := hg.1.slot_lt hr
    have hfound := holdRequest_found (act := holdOutcome set port s) hm hl hn hs hd (hsi.findInRow_eq hr)
    split
    · rename_i hgate
      exact exec_hold hp now (hfound.trans (if_pos hgate.ge))
    · rename_i hgate
      have hfound := hfound.trans (if_neg (by omega))
      split
      · rename_i hset
        exact exec_hold hp now (hfound.trans (if_pos hset))
      · rename_i hset
        have hexec := exec_hold hp now (hfound.trans (if_neg hset))
        rw [State.changeAt_eq hr] at hexec
        cases set <;> exact hexec

end Sys2Proof.Machine
end

section
/-! # The flags of a taken index

The flags that an operation raises add up along its parts (`State.raises.trans`), and along the stations or lanes it
serves one after the other (`State.raises_foldl`). -/

namespace Sys2Proof.Machine
open Sys2Proof

/-! ## How raised flags add up -/

section
variable {s s' t t' u : State} {a b : Port → EventFlag → Prop}

theorem State.raises.trans (h : s.raises t a) (h' : t.raises u b) : s.raises u fun p f => a p f ∨ b p f := by
  intro p
  obtain ⟨he, hr, hf⟩ := h p
  obtain ⟨he', hr', hf'⟩ := h' p
  exact ⟨he'.trans he, hr'.trans hr, fun f => by rw [hf', hf, or_assoc]⟩

theorem State.raises.congr (h : s.raises t a) (hab : ∀ p f, a p f ↔ b p f) : s.raises t b := by
  intro p
  obtain ⟨he, hr, hf⟩ := h p
  exact ⟨he, hr, fun f => by rw [hf, hab]⟩

/-- Of two states, only the events bear on the flags raised between them. -/
theorem State.raises.of_events (h : s.raises t a) (hs : s'.events = s.events) (ht : t'.events = t.events) :
    s'.raises t' a := by
  intro p
  simpa only [State.flagSet, hs, ht] using h p

theorem State.raises_self (s : State) : s.raises s fun _ _ => False := fun _ => ⟨rfl, rfl, fun _ => (or_false _).symm.to_iff⟩

theorem State.raiseAll_raises (s : State) (f : EventFlag) : s.raises (s.raiseAll f) fun _ g => g = f := by
  intro port
  refine ⟨?_, ?_, fun g => s.raiseAll_flagSet f port g⟩ <;> simp [State.raiseAll, PortEvents.raise]

theorem State.raiseAt_raises (s : State) (p : Option Port) (f : EventFlag) :
    s.raises (s.raiseAt p f) fun port g => p = some port ∧ g = f := by
  intro port
  refine ⟨?_, ?_, fun g => s.raiseAt_flagSet p f port g⟩
  all_goals
    cases p
    · rfl
    · simp only [State.raiseAt, State.raiseOn, State.setEvents_events, Quad.get_modify]
      split <;> rfl

theorem State.raiseAt_if_raises (s : State) (c : Prop) [Decidable c] (p : Option Port) (f : EventFlag) :
    s.raises (if c then s.raiseAt p f else s) fun port g => c ∧ p = some port ∧ g = f := by
  by_cases hc : c
  · rw [if_pos hc]
    exact (s.raiseAt_raises p f).congr fun _ _ => by simp [hc]
  · rw [if_neg hc]
    exact s.raises_self.congr fun _ _ => by simp [hc]

end

/-- Steps that do not disturb what the others raise raise together what each would raise alone. -/
theorem State.raises_foldl {α : Type} {step : State → α → State} {cond : State → α → Port → EventFlag → Prop}
    (hraise : ∀ (s : State) a, s.raises (step s a) (cond s a))
    (hkeep : ∀ s a b, a ≠ b → ∀ p f, cond (step s a) b p f ↔ cond s b p f) {l : List α} (hl : l.Nodup) (s : State) :
    s.raises (l.foldl step s) fun p f => ∃ a ∈ l, cond s a p f := by
  induction l generalizing s with
  | nil => exact s.raises_self.congr fun _ _ => by simp
  | cons a l ih =>
    obtain ⟨ha, hl⟩ := List.nodup_cons.mp hl
    refine ((hraise s a).trans (ih hl (step s a))).congr fun p f => ?_
    rw [List.exists_mem_cons_iff]
    refine or_congr_right (exists_congr fun b => and_congr_right fun hb => ?_)
    exact hkeep s a b (fun h => ha (h ▸ hb)) p f

/-! ## Windows and arrivals (R38, R39) -/

/-- R38: a window of the station closes on a NONE field, and the station reports to the port. -/
def State.lateAt (s : State) (st : PortStation) (p : Port) : Prop :=
  (s.verdict.stations.entry st).enabled = true ∧ (s.verdict.stations.entry st).port = some p ∧
    ∃ lane q, s.recordAt lane ((s.verdict.stations.entry st).slot + (s.verdict.stations.entry st).window) =
      some (.product q) ∧ q.unwritten st = true

/-- R39: a PRODUCT record stands at the station's slot, and the station reports to the port. -/
def State.arrivesAt (s : State) (st : PortStation) (p : Port) : Prop :=
  (s.verdict.stations.entry st).enabled = true ∧ (s.verdict.stations.entry st).port = some p ∧
    ∃ lane q, s.recordAt lane (s.verdict.stations.entry st).slot = some (.product q)

/-- Some lane's record at a slot is PRODUCT, with the property given. -/
theorem State.any_atSlot {s : State} {f : Record → Bool} {P : Product → Prop}
    (hf : ∀ r, f r = true ↔ ∃ q, r = .product q ∧ P q) (slot : Nat) :
    s.web.rows.any (atSlot f slot) = true ↔ ∃ lane q, s.recordAt lane slot = some (.product q) ∧ P q := by
  simp only [Quad.any_iff, atSlot, Option.any_eq_true, hf, State.recordAt]
  refine exists_congr fun lane => ⟨?_, ?_⟩
  · rintro ⟨_, hr, q, rfl, hq⟩
    exact ⟨q, hr, hq⟩
  · rintro ⟨q, hr, hq⟩
    exact ⟨_, hr, q, rfl, hq⟩

theorem closesLate_iff (st : PortStation) (r : Record) :
    closesLate st r = true ↔ ∃ q, r = .product q ∧ q.unwritten st = true := by
  cases r <;> simp [closesLate, Record.product?]

theorem Record.isProduct_iff (r : Record) : r.isProduct = true ↔ ∃ q, r = .product q ∧ True := by
  cases r <;> simp [Record.isProduct, Record.product?]

theorem State.closeWindow_raises (s : State) (st : PortStation) :
    s.raises (s.closeWindow st) fun p f => s.lateAt st p ∧ f = .late := by
  have hlate := s.any_atSlot (closesLate_iff st)
    ((s.verdict.stations.entry st).slot + (s.verdict.stations.entry st).window)
  unfold State.closeWindow
  by_cases he : (s.verdict.stations.entry st).enabled = true
  · simp only [he, if_true]
    refine ((State.raiseAt_if_raises (s.setRows _) _ _ _).of_events rfl rfl).congr fun p f => ?_
    rw [hlate]
    simp only [State.lateAt, he, true_and]
    tauto
  · simp only [he, Bool.false_eq_true, if_false]
    exact s.raises_self.congr fun p f => by simp [State.lateAt, he]

theorem State.arrive_raises (s : State) (st : PortStation) :
    s.raises (s.arrive st) fun p f => s.arrivesAt st p ∧ f = .arrival := by
  have harrive := s.any_atSlot Record.isProduct_iff (s.verdict.stations.entry st).slot
  unfold State.arrive
  refine (State.raiseAt_if_raises s _ _ _).congr fun p f => ?_
  rw [Bool.and_eq_true, harrive]
  simp only [State.arrivesAt, and_true]
  tauto

theorem Product.makeLate_unwritten {st st' : PortStation} (h : st ≠ st') (p : Product) :
    (p.makeLate st).unwritten st' = p.unwritten st' := by
  cases st <;> cases st' <;> simp [Product.makeLate, Product.unwritten] at h ⊢

/-- R38: a window closing writes its own station's field alone. -/
theorem Product.closeAt_unwritten {st st' : PortStation} (h : st ≠ st') (m : StationMap) (slot : Nat) (p : Product) :
    (p.closeAt m st slot).unwritten st' = p.unwritten st' := by
  unfold Product.closeAt
  split
  · exact p.makeLate_unwritten h
  · rfl

/-- A PRODUCT record with a property, found where every PRODUCT record has been changed. -/
theorem exists_onProduct {o : Option Record} {f : Product → Product} {P : Product → Prop} :
    (∃ q, o.map (Record.onProduct f) = some (.product q) ∧ P q) ↔ ∃ q, o = some (.product q) ∧ P (f q) := by
  rcases o with _ | _ | _ | _ <;> simp [Record.onProduct]

theorem State.closeWindow_recordAt (s : State) (st : PortStation) (lane : Lane) (slot : Nat) :
    (s.closeWindow st).recordAt lane slot =
      (s.recordAt lane slot).map (Record.onProduct (Product.closeAt s.verdict.stations st slot)) := by
  rw [State.closeWindow_eq]
  simp [State.recordAt, StationMap.closeRow]

theorem State.closeWindow_verdict (s : State) (st : PortStation) : (s.closeWindow st).verdict = s.verdict := by
  rw [State.closeWindow_eq]
  rfl

theorem State.closeWindow_lateAt (s : State) {st st' : PortStation} (h : st ≠ st') (p : Port) :
    (s.closeWindow st).lateAt st' p ↔ s.lateAt st' p := by
  simp only [State.lateAt, State.closeWindow_verdict, State.closeWindow_recordAt, exists_onProduct,
    Product.closeAt_unwritten h]

theorem State.arrive_arrivesAt (s : State) (st st' : PortStation) (p : Port) :
    (s.arrive st).arrivesAt st' p ↔ s.arrivesAt st' p := by
  rw [State.arrive_eq]
  rfl

theorem mem_portStations (st : PortStation) : st ∈ portStations := by
  cases st <;> decide

theorem portStations_nodup : portStations.Nodup := by decide

theorem State.closeWindow_keeps (s : State) (st : PortStation) : s.keepsTrack (s.closeWindow st) := by
  have hrows : sameIdentities s.web.rows (s.web.rows.map (s.verdict.stations.closeRow st)) := fun lane => by
    rw [Quad.get_map]
    refine map_identity_mapIdx (fun slot r => Record.onProduct_identity _ (fun p => ?_) r) _
    unfold Product.closeAt
    split
    · cases st <;> exact ⟨rfl, rfl⟩
    · exact ⟨rfl, rfl⟩
  rw [State.closeWindow_eq]
  exact (State.setRows_keeps hrows).trans (State.setEvents_leaves _ _).keeps

theorem State.keepsTrack.foldl {α : Type} {f : State → α → State} (h : ∀ (s : State) a, s.keepsTrack (f s a)) (l : List α)
    (s : State) : s.keepsTrack (l.foldl f s) := by
  induction l generalizing s with
  | nil => exact .refl s
  | cons a l ih => exact (h s a).trans (ih (f s a))

/-- Where the records keep their Kinds, the same stations meet a PRODUCT record. -/
theorem State.keepsTrack.arrivesAt_iff {s t : State} (h : s.keepsTrack t) (st : PortStation) (p : Port) :
    t.arrivesAt st p ↔ s.arrivesAt st p := by
  have hproduct (u : State) (lane : Lane) (slot : Nat) :
      (∃ q, u.recordAt lane slot = some (.product q)) ↔ ∃ x, u.serialAt lane slot = some x := by
    simp only [State.serialAt_eq_some]
    constructor
    · rintro ⟨q, hq⟩
      exact ⟨_, q, hq, rfl⟩
    · rintro ⟨_, q, hq, -⟩
      exact ⟨q, hq⟩
  simp only [State.arrivesAt, h.stations, hproduct, State.serialAt_of_sameIdentities h.rows]

/-- R37, R38, R39: the Verdict Unit's index work raises LATE for the windows that close on the track it finds, and
ARRIVAL for the PRODUCT records there. -/
theorem State.verdictIndex_raises (s : State) (cards : Quad Bool) :
    s.raises (s.verdictIndex cards) fun p f =>
      ((∃ st, s.lateAt st p) ∧ f = .late) ∨ (∃ st, s.arrivesAt st p) ∧ f = .arrival := by
  have hkeep : s.keepsTrack (portStations.foldl State.closeWindow s) :=
    State.keepsTrack.foldl State.closeWindow_keeps _ s
  have hclose := State.raises_foldl (cond := fun s st p f => s.lateAt st p ∧ f = .late) State.closeWindow_raises
    (fun s _ _ h p _ => and_congr_left' (s.closeWindow_lateAt h p)) portStations_nodup s
  have harrive := State.raises_foldl (cond := fun s st p f => s.arrivesAt st p ∧ f = .arrival) State.arrive_raises
    (fun s st st' _ p _ => and_congr_left' (s.arrive_arrivesAt st st' p)) portStations_nodup
    (portStations.foldl State.closeWindow s)
  refine ((hclose.trans harrive).of_events rfl ?_).congr fun p f => ?_
  · rw [State.verdictIndex, State.sampleCards_eq]
    rfl
  · simp only [mem_portStations, true_and, exists_and_right, hkeep.arrivesAt_iff]

/-! ## The abort, the gate and the end of a drain (R102, R117, R133) -/

theorem State.publish_raises (s : State) (now : Time) (r : StrokeReport) :
    s.raises (s.publish now r) fun p f => s.verdict.stations.heatSeal.port = some p ∧ f = .stroke := by
  unfold State.publish
  by_cases ha : s.mode.mode.active = true
  · simp only [State.setStroke_mode, ha, if_true]
    exact (State.raiseAt_raises ((s.setStroke { s.stroke with phase := .idle, report := some r }).startIdle now) _
      .stroke).of_events rfl rfl
  · simp only [State.setStroke_mode, ha, Bool.false_eq_true, if_false]
    exact (State.raiseAt_raises (s.setStroke { s.stroke with phase := .idle, report := some r }) _ .stroke).of_events
      rfl rfl

theorem State.endStroke_raises (s : State) (now : Time) (k : Stroke) (kind : EndKind)
    (verdict : StrokeLane → ReportVerdict) :
    s.raises (s.endStroke now k kind verdict) fun p f => s.verdict.stations.heatSeal.port = some p ∧ f = .stroke :=
  ((s.setRows (k.writeTargets verdict s.web.rows)).publish_raises now (k.report kind verdict)).of_events rfl rfl

theorem State.abortStroke_raises (s : State) (now : Time) :
    s.raises (s.abortStroke now) fun p f =>
      s.stroke.phase ≠ .idle ∧ s.verdict.stations.heatSeal.port = some p ∧ f = .stroke := by
  unfold State.abortStroke
  cases hphase : s.stroke.phase with
  | idle => exact s.raises_self.congr fun p f => by simp
  | sampling due k => exact (s.endStroke_raises now k .aborted k.abortVerdict).congr fun p f => by simp
  | capped k => exact (s.endStroke_raises now k .aborted k.abortVerdict).congr fun p f => by simp

/-- A decision touches neither the events nor the gate report port. -/
theorem State.decideLanes_keep (now : Time) (l : List Lane) (s : State) :
    (l.foldl (State.decideLane now) s).events = s.events ∧
      (l.foldl (State.decideLane now) s).gate.reportPort = s.gate.reportPort := by
  induction l generalizing s with
  | nil => exact ⟨rfl, rfl⟩
  | cons lane l ih =>
    have hlane : (s.decideLane now lane).events = s.events ∧
        (s.decideLane now lane).gate.reportPort = s.gate.reportPort := by
      unfold State.decideLane
      split <;> exact ⟨rfl, rfl⟩
    obtain ⟨he, hp⟩ := ih (s.decideLane now lane)
    exact ⟨he.trans hlane.1, hp.trans hlane.2⟩

theorem State.gateIndex_raises (s : State) (now : Time) :
    s.raises (s.gateIndex now) fun p f => s.gate.reportPort = some p ∧ f = .gate := by
  obtain ⟨he, hp⟩ := State.decideLanes_keep now (lanesBelow s.web.lanes) s.endPulses
  exact ((State.raiseAt_raises _ _ .gate).of_events he.symm rfl).congr fun p f => by
    rw [hp]
    exact Iff.rfl

theorem State.drainCheck_raises (s : State) :
    s.raises s.drainCheck fun _ f => (s.mode.mode = .drain ∧ s.noProduct) ∧ f = .mode := by
  obtain ⟨hm, hn, h⟩ | ⟨hn, h⟩ := s.drainCheck_cases <;> rw [h]
  · exact ((State.raiseAll_raises (s.setMode _) .mode).of_events rfl rfl).congr fun p f => by simp [hm, hn]
  · exact s.raises_self.congr fun p f => by simp [hn]

theorem State.gateIndex_mode (s : State) (now : Time) : (s.gateIndex now).mode = s.mode := by
  rw [State.gateIndex_eq]
  rfl

theorem State.drainCheck_noProduct (s : State) : s.drainCheck.noProduct ↔ s.noProduct := by
  unfold State.noProduct State.recordAt
  rw [s.drainCheck_leaves.web]

/-! ## A taken index -/

/-- R18: past the entry slot, a record on the shifted track is the one that stood one slot before. -/
theorem State.shifted_recordAt_pred {s : State} (hw : s.web.shaped) (now : Time) (lane : Lane) {slot : Nat}
    (h0 : 1 ≤ slot) (hs : slot < s.web.length) : (s.shifted now).recordAt lane slot = s.recordAt lane (slot - 1) := by
  obtain ⟨k, rfl⟩ := Nat.exists_eq_add_of_le' h0
  by_cases hl : lane.val < s.web.lanes
  · exact State.shifted_recordAt_succ hw now hl hs
  · simp [State.recordAt, State.shifted_web, hl, hw.rows_get_of_le (Nat.not_lt.mp hl)]

/-- R38: the window of a station closes on the record that stood at the window's last slot before the index. -/
theorem State.shifted_lateAt {s : State} (hg : s.geometryInv) (now : Time) (st : PortStation) (p : Port) :
    (s.shifted now).lateAt st p ↔
      (s.verdict.stations.entry st).enabled = true ∧ (s.verdict.stations.entry st).port = some p ∧
        ∃ lane q, s.recordAt lane ((s.verdict.stations.entry st).slot + (s.verdict.stations.entry st).window - 1) =
          some (.product q) ∧ q.unwritten st = true := by
  obtain ⟨hw, ⟨hplaced, -, -⟩, -⟩ := hg
  refine and_congr_right fun he => ?_
  obtain ⟨hwindow, hend⟩ := hplaced st he
  have hrecord (lane : Lane) := State.shifted_recordAt_pred hw now lane
    (slot := (s.verdict.stations.entry st).slot + (s.verdict.stations.entry st).window) (by omega) (by omega)
  simp only [← hrecord]
  exact Iff.rfl

/-- Settles O6: the flags of each part of the index work, in their order, on the shifted track. -/
theorem indexRaisesFlags : Obligations.IndexRaisesFlags := by
  intro now cards s hr ht hact hg
  have habort := s.aborted_from now cards
  have hkeep : (s.shifted now).keepsTrack ((s.aborted now cards).gateIndex now).drainCheck :=
    (((State.verdictIndex_keeps _ cards).trans (State.abortStroke_keeps _ now).1).trans
      (State.gateIndex_leaves _ now).keeps).trans (State.drainCheck_leaves _).keeps
  have hstations : ((s.shifted now).verdictIndex cards).verdict.stations = s.verdict.stations :=
    (State.verdictIndex_keeps _ cards).stations
  have hstroke : ((s.shifted now).verdictIndex cards).stroke = s.stroke := State.verdictIndex_stroke cards _
  refine ⟨((s.aborted now cards).gateIndex now).drainCheck,
    (exec_indexEdge_taken hr ht cards).trans (congrArg _ (State.takeIndex_active hact now cards)), ?_⟩
  have hraises := ((((s.shifted now).verdictIndex_raises cards).trans (State.abortStroke_raises _ now)).trans
    (State.gateIndex_raises (s.aborted now cards) now)).trans (State.drainCheck_raises _)
  refine (hraises.of_events (s' := s) rfl rfl).congr fun p f => ?_
  rw [hstations, hstroke, habort.gate, State.gateIndex_mode, habort.mode, ← State.drainCheck_noProduct]
  simp only [← hkeep.arrivesAt_iff, State.shifted_lateAt hg]
  have hseal : (((s.aborted now cards).gateIndex now).drainCheck).verdict.stations = s.verdict.stations :=
    hkeep.stations
  cases f <;> simp [State.arrivesAt, hseal]

end Sys2Proof.Machine
end

section
/-! # The self-check that finds no VALID configuration

The turn to the factory default settings (`State.factoryTurned`), then the evaluation of every lane under them
(`State.factoryWoken`). -/

namespace Sys2Proof.Machine
open Sys2Proof

/-! ## Verification and the reference -/

/-- R160: verifying a block gives it a state that its contents and marks allow. -/
theorem Block.verified_verifiesTo {α : Type} (b : Block α) (fault : α → Option Nat) :
    b.verifiesTo fault (b.verified fun c => (fault c).isNone) := by
  obtain ⟨contents, checkMatches, openMark, state⟩ := b
  cases openMark with
  | true => cases contents <;> exact .inl rfl
  | false =>
    cases contents with
    | none => exact ⟨rfl, rfl⟩
    | some c =>
      cases checkMatches with
      | false => exact .inr ⟨c, rfl, .inl rfl⟩
      | true =>
        cases hf : fault c with
        | none =>
          simp only [Block.verified, hf]
          exact ⟨rfl, rfl, c, rfl, hf⟩
        | some k =>
          simp only [Block.verified, hf]
          exact .inr ⟨c, rfl, .inr (by simp [hf])⟩

/-- R136: a configuration block that does not verify VALID makes the configuration state INVALID. -/
theorem configStateOf_verified {b : Block ConfigWire} (h : ¬b.verifiesTo configFault .valid) :
    configStateOf (b.verified fun c => (configFault c).isNone) = .invalid := by
  have hv := b.verified_verifiesTo configFault
  cases hs : b.verified fun c => (configFault c).isNone with
  | valid => exact absurd (hs ▸ hv) h
  | empty | invalid | unverified => rfl

/-- R65: the model's test of a REF code, as a distance. -/
theorem refOk_eq (cal : Calibration) (c : RawCode) : refOk cal c = referenceOk cal c := by
  rw [refOk, referenceOk, Bool.eq_iff_iff]
  simp only [Bool.and_eq_true, decide_eq_true_eq]
  omega

/-! ## Lanes evaluated one after the other (R73, R74) -/

theorem State.evaluateLane_lanes (s : State) (added : Bool) (lane n : Lane) :
    (s.evaluateLane added lane).acq.lanes.get n =
      if lane = n then { s.acq.lanes.get n with ready := s.readyNow lane } else s.acq.lanes.get n := by
  rw [State.evaluateLane_eq]
  exact Quad.get_modify ..

/-- R72: a lane's ready state rests on its own samples and assignment. -/
theorem State.evaluateLane_readyNow (s : State) (added : Bool) {lane n : Lane} (h : lane ≠ n) :
    (s.evaluateLane added lane).readyNow n = s.readyNow n := by
  have hl := s.evaluateLane_lanes added lane n
  rw [if_neg h] at hl
  rw [State.readyNow, hl, State.evaluateLane_eq]
  rfl

theorem State.evaluateLane_raises (s : State) (added : Bool) (lane : Lane) :
    s.raises (s.evaluateLane added lane) fun p f =>
      (added = true ∨ s.readyNow lane ≠ (s.acq.lanes.get lane).ready) ∧
        s.verdict.stations.heatSeal.port = some p ∧ f = .readyChange := by
  unfold State.evaluateLane
  refine (((s.setReady lane (s.readyNow lane)).raiseAt_if_raises _ _ _).of_events rfl rfl).congr fun p f => ?_
  rw [Bool.or_eq_true, bne_iff_ne]
  exact Iff.rfl

/-- R74: the lane's state moves in an evaluation of every lane, or the lane counts as changed. -/
def State.laneMoves (s : State) (before : Nat) (lane : Lane) : Prop :=
  before ≤ lane.val ∨ s.readyNow lane ≠ (s.acq.lanes.get lane).ready

theorem State.evaluateLanes_raises (s : State) (before : Nat) :
    s.raises (s.evaluateLanes before) fun p f =>
      (∃ lane : Lane, lane.val < s.web.lanes ∧ s.laneMoves before lane) ∧
        s.verdict.stations.heatSeal.port = some p ∧ f = .readyChange := by
  have hkeep (s : State) (a b : Lane) (h : a ≠ b) (p : Port) (f : EventFlag) :
      ((s.evaluateLane (decide (before ≤ a.val)) a).laneMoves before b ∧
        (s.evaluateLane (decide (before ≤ a.val)) a).verdict.stations.heatSeal.port = some p ∧ f = .readyChange) ↔
      s.laneMoves before b ∧ s.verdict.stations.heatSeal.port = some p ∧ f = .readyChange := by
    rw [State.laneMoves, State.evaluateLane_readyNow _ _ h, State.evaluateLane_lanes, if_neg h,
      (s.evaluateLane_leaves _ a).stations, State.laneMoves]
  refine (State.raises_foldl
    (cond := fun s lane p f => s.laneMoves before lane ∧ s.verdict.stations.heatSeal.port = some p ∧ f = .readyChange)
    (fun s lane => ?_) hkeep (lanesBelow_nodup s.web.lanes) s).congr fun p f => ?_
  · exact (s.evaluateLane_raises _ lane).congr fun p f => by rw [decide_eq_true_eq, State.laneMoves]
  · simp only [mem_lanesBelow, ← and_assoc, exists_and_right]

theorem State.evaluateLanes_lanes (s : State) (before : Nat) (n : Lane) :
    (s.evaluateLanes before).acq.lanes.get n =
      if n.val < s.web.lanes then { s.acq.lanes.get n with ready := s.readyNow n } else s.acq.lanes.get n := by
  have hfold {l : List Lane} (hl : l.Nodup) (s : State) :
      (l.foldl (fun s n => s.evaluateLane (decide (before ≤ n.val)) n) s).acq.lanes.get n =
        if n ∈ l then { s.acq.lanes.get n with ready := s.readyNow n } else s.acq.lanes.get n := by
    induction l generalizing s with
    | nil => rfl
    | cons a l ih =>
      obtain ⟨ha, hl⟩ := List.nodup_cons.mp hl
      rw [List.foldl_cons, ih hl, State.evaluateLane_lanes]
      by_cases hn : a = n
      · subst hn
        simp [ha]
      · simp [State.evaluateLane_readyNow _ _ hn, hn, Ne.symm hn]
  have h := hfold (lanesBelow_nodup s.web.lanes) s
  simp only [mem_lanesBelow] at h
  exact h

/-- R72: a lane with no assignment is NO_RECIPE. -/
theorem State.readyNow_of_unassigned {s : State} {lane : Lane} (h : s.mode.assignments.get lane = none) :
    s.readyNow lane = .noRecipe := by
  simp [State.readyNow, State.assignedRecipe, h, readyUnder]

/-! ## The turn to the factory default settings (R137, R156, R171, R191) -/

/-- R136, R137: the part between the turn to the factory default settings and the evaluation of its lanes. -/
def State.factoryTurned (s : State) (ref : RawCode) : State :=
  let s := (s.setStore s.store.verifyAll).factoryTurn.judgeReference ref .wake
  s.setMode { s.mode with configState := .invalid, mode := .setup, wake := none }

/-- R136, R137: the part once its lanes are evaluated and the self-check has ended. -/
def State.factoryWoken (s : State) (now : Time) (w : Wake) (ref : RawCode) : State :=
  (((s.factoryTurned ref).evaluateLanes s.web.lanes).startIdle now).raiseAll (wakeFlag w.origin)

theorem exec_selfCheckExpiry {s : State} {w : Wake} {now : Time} (hr : s.resetHeld = false) (hw : s.mode.wake = some w)
    (hd : w.due ≤ now) (ref : RawCode) :
    exec (.selfCheckExpiry now ref) s = .next (s.completeSelfCheck now w ref) := by
  have h : s.selfCheckExpiry now ref = s.completeSelfCheck now w ref := by
    simp only [State.selfCheckExpiry, hw, hd, if_true]
  rw [← h]
  exact congrArg Host.Outcome.next (if_neg (by simp [hr]))

theorem State.completeSelfCheck_invalid {s : State} (h : ¬s.store.config.verifiesTo configFault .valid) (now : Time)
    (w : Wake) (ref : RawCode) :
    s.completeSelfCheck now w ref = s.factoryWoken now w ref := by
  have hstate : configStateOf (s.setStore s.store.verifyAll).store.config.state = .invalid := configStateOf_verified h
  simp only [State.completeSelfCheck, hstate, reduceCtorEq, if_false]
  rfl

theorem State.factoryTurned_readyNow (s : State) (ref : RawCode) (lane : Lane) :
    (s.factoryTurned ref).readyNow lane = .noRecipe := by
  refine State.readyNow_of_unassigned ?_
  show ((Quad.fill none).restrict 2 none).get lane = none
  simp

/-- R75: the lanes of the factory default geometry keep their samples through the turn. -/
theorem State.factoryTurned_lanes (s : State) (ref : RawCode) {lane : Lane} (h : lane.val < 2) :
    (s.factoryTurned ref).acq.lanes.get lane = s.acq.lanes.get lane := by
  show (s.acq.lanes.restrict 2 (LaneSamples.fresh .noRecipe)).get lane = s.acq.lanes.get lane
  rw [Quad.get_restrict, if_pos h]

theorem State.factoryTurned_ports (s : State) (ref : RawCode) (port : Port) :
    (s.factoryTurned ref).ports.get port = (s.ports.get port).turnBaud .b115200 := by
  show (Quad.zipWith StationPort.turnBaud s.ports (Quad.fill .b115200)).get port = _
  simp

/-- R22, R191: TRACK_LOST on every port, and every enable set at the factory default. -/
theorem State.factoryTurned_events (s : State) (ref : RawCode) (port : Port) :
    ((s.factoryTurned ref).events.get port).enable = 0x3FF ∧
      ((s.factoryTurned ref).events.get port).storeResult = (s.events.get port).storeResult ∧
      ∀ f, (s.factoryTurned ref).flagSet port f ↔ s.flagSet port f ∨ f = .trackLost := by
  have hevents : (s.factoryTurned ref).events.get port =
      { (s.raiseAll .trackLost).events.get port with enable := 0x3FF } := by
    show (Quad.zipWith _ (s.raiseAll .trackLost).events (Quad.fill 0x3FF)).get port = _
    simp
  obtain ⟨-, hresult, hflags⟩ := s.raiseAll_raises .trackLost port
  rw [hevents]
  refine ⟨rfl, hresult, fun f => ?_⟩
  rw [← hflags f, State.flagSet, hevents]
  exact Iff.rfl

/-- R59: the factory default masks of the lanes in use. -/
theorem factoryMasks_get (port lane : Fin 4) (h : lane.val < 2) :
    ((factoryMasks.map fun q : Quad FieldMask => q.restrict 2 FieldMask.empty).get port).get lane =
      ({ form := decide (port = 0), load := decide (port = 1), inspect := decide (port = 2), aux := false,
         hold := decide (port = 0 ∨ port = 3) } : FieldMask) := by
  rw [Quad.get_map, Quad.get_restrict, if_pos h]
  clear h
  revert port lane
  decide

/-- R171: a port already at the baud is not touched by the turn. -/
theorem StationPort.turnBaud_of_eq {p : StationPort} {baud : Baud} (h : p.rxBaud = baud) : p.turnBaud baud = p :=
  if_pos h

/-- R171: a turn of the baud discards the frame being received and lets the response being sent finish. -/
theorem StationPort.turnBaud_of_ne {p : StationPort} {baud : Baud} (h : p.rxBaud ≠ baud) :
    p.turnBaud baud =
      { p with rxBaud := baud, receiver := .hunting, txBaud := if p.sending.isSome then p.txBaud else baud } :=
  if_neg h

theorem StationPort.turnBaud_spec (p : StationPort) (baud : Baud) :
    (p.turnBaud baud).rxBaud = baud ∧ (p.turnBaud baud).sending = p.sending ∧ (p.turnBaud baud).held = p.held ∧
      (p.turnBaud baud).lost = p.lost ∧
      (p.rxBaud = baud → (p.turnBaud baud).receiver = p.receiver ∧ (p.turnBaud baud).txBaud = p.txBaud) ∧
      (p.rxBaud ≠ baud → (p.turnBaud baud).receiver = .hunting ∧
        (p.sending = none → (p.turnBaud baud).txBaud = baud) ∧
        (p.sending ≠ none → (p.turnBaud baud).txBaud = p.txBaud)) := by
  by_cases h : p.rxBaud = baud
  · rw [StationPort.turnBaud_of_eq h]
    exact ⟨h, rfl, rfl, rfl, fun _ => ⟨rfl, rfl⟩, fun hne => absurd h hne⟩
  · rw [StationPort.turnBaud_of_ne h]
    refine ⟨rfl, rfl, rfl, rfl, fun he => absurd he h, fun _ => ⟨rfl, fun hs => ?_, fun hs => ?_⟩⟩
    · simp [hs]
    · exact if_pos (Option.isSome_iff_ne_none.mpr hs)

theorem wakeFlag_eq_iff (o : WakeOrigin) (f : EventFlag) :
    f = wakeFlag o ↔ (f = .resetDone ∧ o = .reset) ∨ (f = .mode ∧ o = .leaveStandby) := by
  cases o <;> simp [wakeFlag]

/-- R136, R160: every block takes the state its verification gives. -/
theorem Block.verify_spec {α : Type} (b : Block α) (fault : α → Option Nat) :
    b.verifiesTo fault (b.verify fun c => (fault c).isNone).state ∧
      (b.verify fun c => (fault c).isNone) = { b with state := (b.verify fun c => (fault c).isNone).state } :=
  ⟨b.verified_verifiesTo fault, rfl⟩

section
variable (s : State) (now : Time) (w : Wake) (ref : RawCode)

theorem State.factoryWoken_lanes {lane : Lane} (h : lane.val < 2) :
    (s.factoryWoken now w ref).acq.lanes.get lane = { s.acq.lanes.get lane with ready := .noRecipe } := by
  show ((s.factoryTurned ref).evaluateLanes s.web.lanes).acq.lanes.get lane = _
  rw [State.evaluateLanes_lanes, State.factoryTurned_readyNow, State.factoryTurned_lanes s ref h]
  exact if_pos h

theorem State.factoryWoken_web : (s.factoryWoken now w ref).web = (s.factoryTurned ref).web :=
  ((s.factoryTurned ref).evaluateLanes_leaves s.web.lanes).web

/-- R74: of the two lanes of the factory default geometry, one moved to NO_RECIPE or was added. -/
theorem State.factoryTurned_moves_iff :
    (∃ lane : Lane, lane.val < 2 ∧ (s.factoryTurned ref).laneMoves s.web.lanes lane) ↔
      s.readyMoved (s.factoryWoken now w ref) ∨ s.web.lanes < 2 := by
  have hmoves {lane : Lane} (h : lane.val < 2) : (s.factoryTurned ref).laneMoves s.web.lanes lane ↔
      s.web.lanes ≤ lane.val ∨
        ((s.factoryWoken now w ref).acq.lanes.get lane).ready ≠ (s.acq.lanes.get lane).ready := by
    rw [State.laneMoves, State.factoryTurned_readyNow, State.factoryTurned_lanes s ref h,
      State.factoryWoken_lanes s now w ref h]
  unfold State.readyMoved
  rw [State.factoryWoken_web]
  constructor
  · rintro ⟨lane, h, hl⟩
    obtain hadded | hmoved := (hmoves h).mp hl
    · exact .inr (hadded.trans_lt h)
    · exact .inl ⟨lane, h, hmoved⟩
  · rintro (⟨lane, h, hmoved⟩ | hadded)
    · exact ⟨lane, h, (hmoves h).mpr (.inr hmoved)⟩
    · exact ⟨1, Nat.one_lt_two, .inl (Nat.le_of_lt_succ hadded)⟩

/-- R74, R136, R137: after the turn, READY_CHANGE on port 3 where a lane moved, and the flag of the self-check's end. -/
theorem State.factoryTurned_raises :
    (s.factoryTurned ref).raises (s.factoryWoken now w ref) fun p f =>
      ((s.readyMoved (s.factoryWoken now w ref) ∨ s.web.lanes < 2) ∧ p = 3 ∧ f = .readyChange) ∨
        f = wakeFlag w.origin := by
  have hseal (p : Port) : (s.factoryTurned ref).verdict.stations.heatSeal.port = some p ↔ p = 3 := by
    show (some 3 = some p) ↔ p = 3
    rw [Option.some.injEq, eq_comm]
  have hend := (((s.factoryTurned ref).evaluateLanes s.web.lanes).startIdle now).raiseAll_raises (wakeFlag w.origin)
  refine (((s.factoryTurned ref).evaluateLanes_raises s.web.lanes).trans (hend.of_events rfl rfl)).congr fun p f => ?_
  rw [← State.factoryTurned_moves_iff, hseal]
  exact Iff.rfl

end

/-- Settles O42: the tables of R157, and block by block what the turn and the evaluation leave. -/
theorem selfCheckTurnsToFactory : Obligations.SelfCheckTurnsToFactory := by
  refine ⟨rfl, fun now ref w s hr hw hd hv => ?_⟩
  have hexec := exec_selfCheckExpiry hr hw hd ref
  rw [State.completeSelfCheck_invalid hv] at hexec
  have hlanes (lane : Lane) := State.factoryWoken_lanes s now w ref (lane := lane)
  have hraises := State.factoryTurned_raises s now w ref
  obtain ⟨lanes, events, heval⟩ := (s.factoryTurned ref).evaluateLanes_eq s.web.lanes
  have hwoken : s.factoryWoken now w ref = _ :=
    congrArg (fun e => (e.startIdle now).raiseAll (wakeFlag w.origin)) heval
  rw [hwoken] at hexec hraises hlanes
  refine ⟨_, hexec, rfl, rfl, factoryMasks_get, rfl, ?_, rfl, rfl, hlanes, rfl, rfl,
    (s.store.config.verify_spec configFault).1, rfl, fun slot => ?_, rfl, rfl, fun port => ?_, fun port => ?_, rfl, rfl, rfl⟩
  · rw [← refOk_eq]
    rfl
  · have hspec := (s.store.recipes.get slot).verify_spec recipeFault
    have hrecipe : (s.store.recipes.map fun b => b.verify fun c => (recipeFault c).isNone).get slot = _ :=
      Bank.get_map ..
    rw [← hrecipe] at hspec
    exact hspec
  · have hspec := (s.ports.get port).turnBaud_spec .b115200
    rw [← s.factoryTurned_ports ref] at hspec
    exact hspec
  · obtain ⟨henable, hresult, hflags⟩ := s.factoryTurned_events ref port
    obtain ⟨henable', hresult', hflags'⟩ := hraises port
    refine ⟨henable'.trans henable, hresult'.trans hresult, fun f => ?_⟩
    simp only [hflags', hflags, wakeFlag_eq_iff]
    tauto

end Sys2Proof.Machine
end

section
/-! # What a step can do

Every step is a chain of effects (`step_effects`). An effect is one operation of a block, with what is known where the
part comes to it, so that a property which every effect keeps is one that every step keeps (`step_keeps`). -/

namespace Sys2Proof.Machine
open Sys2Proof

/-- One operation by which the part changes. -/
inductive State.Effect : State → State → Prop where
  | pending (s : State) (l : List Instr) : Effect s { s with pending := l }
  | ports (s : State) (q : Quad StationPort) : Effect s (s.setPorts q)
  | events (s : State) (e : Quad PortEvents) : Effect s (s.setEvents e)
  | pulses (s : State) (p : Quad (Option Time)) : Effect s (s.setGate { s.gate with pulses := p })
  | rows (s : State) {rows : Quad (List Record)} (h : sameIdentities s.web.rows rows) : Effect s (s.setRows rows)
  | index (s : State) (now : Time) (cards : Quad Bool) (h : s.mode.mode.active = true) :
    Effect s ((s.aborted now cards).gateIndex now).drainCheck
  | indexFrozen (s : State) (now : Time) (h : s.mode.mode.active = false) :
    Effect s (s.setWeb (s.web.countEdge now)).loseTrack
  | strokeStart {s : State} (now : Time) (ref : RawCode) (h : s.stroke.phase = .idle)
    (ha : s.mode.mode.active = true) : Effect s (s.startStroke now ref)
  | round {s : State} {due : Time} {k : Stroke} (press : RawCode) (temps : Quad RawCode)
    (h : s.stroke.phase = .sampling due k) : Effect s (s.strokeRound due k press temps)
  | roundCap {s : State} {due : Time} {k : Stroke} (h : s.stroke.phase = .sampling due k) :
    Effect s (s.setStroke { s.stroke with phase := capOrContinue due k })
  | strokeEnd {s : State} {k : Stroke} (now : Time) (h : s.stroke.phase.stroke? = some k) :
    Effect s (s.endStroke now k .complete k.completeVerdict)
  | idlePass {s : State} {due : Time} (temps : Quad RawCode) (h : s.acq.idleDue = some due) :
    Effect s ((s.idlePass temps).startIdle due)
  | selfCheck {s : State} {w : Wake} (now : Time) (ref : RawCode) (h : s.mode.wake = some w) :
    Effect s (s.completeSelfCheck now w ref)
  | written {s : State} {w : StoreWrite} (h : s.store.engine = some w) : Effect s (s.completeWrite w)
  | abandoned {s : State} {w : StoreWrite} (h : s.store.engine = some w) : Effect s (s.abandonWrite w)
  | reset (s : State) (keep : Bool) (wake : Option Wake) (held : Bool) :
    Effect s { s.afterReset keep wake with resetHeld := held }
  | standby {s : State} (now : Time) (ha : s.mode.mode.active = true) (he : s.store.engine = none) :
    Effect s (s.enterStandby now)
  | waking {s : State} (now : Time) (hm : s.mode.mode = .standby) (he : s.store.engine = none) :
    Effect s (s.leaveStandby now)
  | start {s : State} (h : s.mode.mode = .drain ∨ (s.mode.mode = .setup ∧ s.startRefusal = none)) :
    Effect s (s.changeMode .run)
  | stop {s : State} (h : s.mode.mode = .run) : Effect s (s.changeMode .drain).drainCheck
  | webBreak (s : State) : Effect s s.loseTrack
  | webBreakRunning {s : State} (h : s.mode.mode.producing = true) : Effect s (s.loseTrack.changeMode .setup)
  | laneMask {s : State} {set : Byte} (ha : s.mode.mode.active = true) (h : s.maskRefusal set = none) :
    Effect s (s.setMode { s.mode with laneMask := laneSetOf set })
  | assign {s : State} {lane : Lane} {recipe : Option RecipeSlot} (ha : s.mode.mode.active = true)
    (hl : lane.val < s.web.lanes) (h : s.assignRefusal lane recipe = none) : Effect s (s.assign lane recipe)
  | acceptRecipe {s : State} {slot : RecipeSlot} {contents : RecipeWire} (now : Time) (port : Port)
    (he : s.store.engine = none) (hf : recipeFault contents = none) (hu : s.slotInUse slot = false) :
    Effect s (s.acceptWrite now port (.recipe slot contents))
  | acceptConfiguration {s : State} {contents : ConfigWire} (now : Time) (port : Port) (hm : s.mode.mode = .setup)
    (hp : productCount s.web.rows = 0) (he : s.store.engine = none) (hf : configFault contents = none) :
    Effect s (s.acceptWrite now port (.configuration contents))
  | masks (s : State) (masks : Quad (Quad FieldMask)) : Effect s (s.setVerdict { s.verdict with masks := masks })

/-- A chain of effects, or none. -/
abbrev State.Effects (s t : State) : Prop := Relation.ReflTransGen State.Effect s t

/-! ## Requests -/

section
variable (s : State)

theorem takeEnterStandby_effects (now : Time) : s.Effects (takeEnterStandby now s).1 := by
  have h (ha : s.mode.mode.active = true) : s.Effects
      (if s.store.engine.isSome then (s, Reply.refuse .busy) else withMode (s.enterStandby now)).1 := by
    split
    · exact .refl
    · rename_i he
      exact .single (.standby now ha (by simpa using he))
  unfold takeEnterStandby
  split
  · exact .refl
  · exact .refl
  all_goals
    rename_i hm
    exact h (by rw [hm]; rfl)

theorem takeLeaveStandby_effects (now : Time) : s.Effects (takeLeaveStandby now s).1 := by
  unfold takeLeaveStandby
  split
  case h_2 hm =>
    split
    · exact .refl
    · rename_i he
      exact .single (.waking now hm (by simpa using he))
  all_goals exact .refl

theorem takeStart_effects : s.Effects (takeStart s).1 := by
  unfold takeStart
  split
  case h_3 hm =>
    split
    · exact .refl
    · rename_i hr
      exact .single (.start (.inr ⟨hm, hr⟩))
  case h_5 hm => exact .single (.start (.inl hm))
  all_goals exact .refl

theorem takeStop_effects : s.Effects (takeStop s).1 := by
  unfold takeStop
  split
  case h_4 hm => exact .single (.stop hm)
  all_goals exact .refl

theorem takeDeclareWebBreak_effects : s.Effects (takeDeclareWebBreak s).1 := by
  unfold takeDeclareWebBreak
  split
  case h_1 => exact .refl
  case h_2 | h_3 => exact .single (.webBreak s)
  all_goals
    rename_i hm
    exact .single (.webBreakRunning (by rw [hm]; rfl))

/-- The modes left when STANDBY and WAKING have been refused are SETUP, RUN and DRAIN. -/
theorem Mode.active_of_ne {m : Mode} (hs : m ≠ .standby) (hw : m ≠ .waking) : m.active = true := by
  cases m with
  | standby => exact absurd rfl hs
  | waking => exact absurd rfl hw
  | setup | run | drain => rfl

theorem takeSetLaneMask_effects (set : Byte) : s.Effects (takeSetLaneMask set s).1 := by
  unfold takeSetLaneMask
  split
  · exact .refl
  · exact .refl
  · rename_i hs hw
    split
    · exact .refl
    · rename_i hr
      exact .single (.laneMask (Mode.active_of_ne hs hw) hr)

/-- R146: a Set Lane Recipe that passes its first check names a lane below N. -/
theorem assignmentTarget_lt {lanes : Nat} {lane presence slot : Byte} {n : Lane} {recipe : Option RecipeSlot}
    (h : assignmentTarget lanes lane presence slot = some (n, recipe)) : n.val < lanes := by
  unfold assignmentTarget at h
  split at h
  · cases h
  · rename_i m hm
    have hlt := (laneOf_sound hm).2
    split at h
    · cases h
      exact hlt
    · split at h
      · obtain ⟨r, -, he⟩ := Option.map_eq_some_iff.mp h
        cases he
        exact hlt
      · cases h

theorem takeSetLaneRecipe_effects (lane presence slot : Byte) :
    s.Effects (takeSetLaneRecipe lane presence slot s).1 := by
  unfold takeSetLaneRecipe
  split
  · exact .refl
  · exact .refl
  · rename_i hs hw
    split
    · exact .refl
    · rename_i n recipe ht
      split
      · exact .refl
      · rename_i hr
        exact .single (.assign (Mode.active_of_ne hs hw) (assignmentTarget_lt ht) hr)

theorem takePostVerdict_effects (port : Port) (station lane : Byte) (serial : Serial) (value detail : Byte) :
    s.Effects (takePostVerdict port station lane serial value detail s).1 := by
  have h (st : PortStation) (n : Lane) (slot : Nat) (p : Product) :
      s.Effects (postRecord s st n slot p value detail).1 := by
    simp only [postRecord]
    repeat' split
    any_goals exact .refl
    exact .single (.rows s (changeAt_sameIdentities (fun q => q.post_identity _ _ _ _) _ _ _))
  unfold takePostVerdict
  repeat' split
  any_goals exact .refl
  exact h _ _ _ _

theorem holdRequest_effects (port : Port) (lane : Byte) (serial : Serial) {act : Lane → Nat → Product → State × Reply}
    (h : ∀ n slot p, s.Effects (act n slot p).1) : s.Effects (holdRequest port lane serial s act).1 := by
  unfold holdRequest
  repeat' split
  any_goals exact .refl
  exact h _ _ _

/-- A Hold changed, or left as it is. -/
theorem setHold_effects (b : Bool) (n : Lane) (slot : Nat) (hold : Option Port) (refused answered : Reply) :
    s.Effects (if b then (s, refused) else
      (s.setRows (changeAt s.web.rows n slot fun q => { q with hold := hold }), answered)).1 := by
  split
  · exact .refl
  · exact .single (.rows s (setHold_sameIdentities _ _ _ _))

theorem takeWriteConfiguration_effects (now : Time) (port : Port) (contents : ConfigWire) :
    s.Effects (takeWriteConfiguration now port contents s).1 := by
  unfold takeWriteConfiguration
  repeat' split
  any_goals exact .refl
  rename_i _ hm hp he _ hf
  exact .single (.acceptConfiguration now port (not_not.mp hm) (not_not.mp hp) (by simpa using he) hf)

theorem takeWriteRecipe_effects (now : Time) (port : Port) (slot : Byte) (contents : RecipeWire) :
    s.Effects (takeWriteRecipe now port slot contents s).1 := by
  unfold takeWriteRecipe
  repeat' split
  any_goals exact .refl
  rename_i _ he _ _ _ _ hf hu
  exact .single (.acceptRecipe now port (by simpa using he) hf (by simpa using hu))

theorem takeSetEventEnable_effects (port : Port) (set : BitVec 16) : s.Effects (takeSetEventEnable port set s).1 := by
  unfold takeSetEventEnable
  split
  · exact .refl
  · exact .single (.events s _)

theorem takeSetPortMask_effects (target lane mask : Byte) : s.Effects (takeSetPortMask target lane mask s).1 := by
  unfold takeSetPortMask
  repeat' split
  any_goals exact .refl
  exact .single (.masks s _)

theorem takeRequest_effects (now : Time) (port : Port) (r : Request) : s.Effects (takeRequest now port r s).1 := by
  have same {t : State} (h : t = s) : s.Effects t := h ▸ .refl
  cases r with
  | identify | readLineStatus | resetPart => exact .refl
  | enterStandby => exact takeEnterStandby_effects s now
  | leaveStandby => exact takeLeaveStandby_effects s now
  | start => exact takeStart_effects s
  | stop => exact takeStop_effects s
  | declareWebBreak => exact takeDeclareWebBreak_effects s
  | setLaneMask set => exact takeSetLaneMask_effects s set
  | setLaneRecipe lane presence slot => exact takeSetLaneRecipe_effects s lane presence slot
  | postVerdict station lane serial value detail => exact takePostVerdict_effects s ..
  | setHold lane serial => exact holdRequest_effects s port lane serial fun n slot p => setHold_effects s ..
  | clearHold lane serial => exact holdRequest_effects s port lane serial fun n slot p => setHold_effects s ..
  | readRecord lane slot => exact same (takeReadRecord_state s lane slot)
  | findSerial serial => exact same (takeFindSerial_state s serial)
  | readPlane lane selector => exact same (takeReadPlane_state s lane selector)
  | readStrokeReport => exact same (takeReadStrokeReport_state s)
  | readPlatens => exact same (takeReadPlatens_state s)
  | readDischargeLog first count => exact same (takeReadDischargeLog_state s first count)
  | readEvents => exact .single (.events s _)
  | setEventEnable set => exact takeSetEventEnable_effects s port set
  | writeConfiguration contents => exact takeWriteConfiguration_effects s now port contents
  | readConfiguration => exact same (takeReadConfiguration_state s)
  | writeRecipe slot contents => exact takeWriteRecipe_effects s now port slot contents
  | readRecipe slot => exact same (takeReadRecipe_state s slot)
  | setPortMask target lane mask => exact takeSetPortMask_effects s target lane mask
  | readPortMask target => exact same (takeReadPortMask_state s target)

end

/-! ## Frames, responses and resets -/

theorem answerRequest_effects (now : Time) (port : Port) (r : Request) (s : State) :
    s.Effects (answerRequest now port r s) :=
  (takeRequest_effects s now port r).tail (.ports _ _)

theorem answerFrame_effects (now : Time) (port : Port) (f : Frame) (s : State) :
    s.Effects (answerFrame now port f s) := by
  unfold answerFrame
  split
  case h_4 => exact answerRequest_effects ..
  all_goals exact .single (.ports s _)

theorem deliver_effects {answer : State → State} (h : ∀ s : State, s.Effects (answer s)) (port : Port) (f : Frame)
    (s : State) : s.Effects (deliver port f answer s) := by
  simp only [deliver]
  split
  · exact .refl
  · refine .head (b := s.hunt port) (.ports s _) ?_
    split
    · exact .single (.ports _ _)
    · exact .single (.ports _ _)
    · exact h _

theorem frameComplete_effects (now : Time) (port : Port) (f : Frame) (s : State) :
    s.Effects (frameComplete now port f s) :=
  deliver_effects (answerFrame_effects now port f) port f s

theorem submit_effects (now : Time) (port : Port) (r : Request) (s : State) : s.Effects (submit now port r s) :=
  deliver_effects (answerRequest_effects now port r) port r.frame s

section
variable (s : State)

theorem State.receiveByte_effects (begun now : Time) (port : Port) (b : Byte) :
    s.Effects (s.receiveByte begun now port b) := by
  unfold State.receiveByte
  repeat' split
  · exact .refl
  · exact .single (.ports s _)
  · exact frameComplete_effects ..

theorem State.answerHeld_effects (now : Time) (port : Port) : s.Effects (s.answerHeld now port) := by
  unfold State.answerHeld
  split
  · exact .refl
  · exact .head (.ports s _) (answerFrame_effects ..)

theorem State.responseSent_effects (now : Time) (port : Port) : s.Effects (s.responseSent now port) := by
  unfold State.responseSent
  repeat' split
  · exact .refl
  · exact .single (.reset s true _ s.resetHeld)
  · exact .head (.ports s _) (State.answerHeld_effects ..)

theorem State.resetTaken_effects (now : Time) (port : Port) : s.Effects (s.resetTaken now port) := by
  unfold State.resetTaken
  split
  · exact .single (.reset s true _ s.resetHeld)
  · exact .refl

theorem State.releaseReset_effects (now : Time) : s.Effects (s.releaseReset now) := by
  unfold State.releaseReset
  split
  · exact .single (.reset s false _ false)
  · exact .refl

/-! ## Lines and timers -/

theorem State.indexEdge_effects (now : Time) (cards : Quad Bool) : s.Effects (s.indexEdge now cards) := by
  unfold State.indexEdge
  split
  · rcases ha : s.mode.mode.active with _ | _
    · rw [State.takeIndex_inactive ha]
      exact .single (.indexFrozen s now ha)
    · rw [State.takeIndex_active ha]
      exact .single (.index s now cards ha)
  · exact .single (.events s _)

theorem State.completeStroke_effects (now : Time) : s.Effects (s.completeStroke now) := by
  unfold State.completeStroke
  split
  · rename_i hk
    exact .single (.strokeEnd now hk)
  · exact .refl

theorem State.expirePulse_effects (now : Time) (lane : Lane) : s.Effects (s.expirePulse now lane) := by
  unfold State.expirePulse
  repeat' split
  · exact .single (.pulses s _)
  · exact .refl
  · exact .refl

theorem State.selfCheckExpiry_effects (now : Time) (ref : RawCode) : s.Effects (s.selfCheckExpiry now ref) := by
  unfold State.selfCheckExpiry
  split
  · rename_i hw
    split
    · exact .single (.selfCheck now ref hw)
    · exact .refl
  · exact .refl

theorem State.storeCompletion_effects (now accepted : Time) : s.Effects (s.storeCompletion now accepted) := by
  unfold State.storeCompletion
  split
  · rename_i hw
    split
    · exact .single (.written hw)
    · exact .refl
  · exact .refl

theorem State.storeDeadline_effects (now : Time) : s.Effects (s.storeDeadline now) := by
  unfold State.storeDeadline
  split
  · rename_i hw
    split
    · exact .single (.abandoned hw)
    · exact .refl
  · exact .refl

end

/-! ## The step -/

/-- A line or timer command has its effects, and none while the RESET line is held. -/
theorem State.effects_of_unlessHeld {s e t : State}
    (h : (Host.Outcome.next (if s.resetHeld then s else e) : Answer) = .next t) (he : s.Effects e) : s.Effects t := by
  cases h
  split
  · exact .refl
  · exact he

section
variable {s t : State}

theorem execSealRisingEdge_effects {now : Time} {ref : RawCode} (h : execSealRisingEdge now ref s = .next t) :
    s.Effects t := by
  refine State.effects_of_unlessHeld h ?_
  beta_reduce
  split
  · rename_i hi
    split
    · rename_i ha
      exact .single (.strokeStart now ref hi ha)
    · exact .refl
  · exact .refl
  · exact .refl

theorem execRound_effects {now : Time} {press : RawCode} {temps : Quad RawCode}
    (h : execRound now press temps s = .next t) : s.Effects t := by
  refine State.effects_of_unlessHeld h ?_
  beta_reduce
  split
  · exact .refl
  · rename_i hk
    split
    · exact .single (.round press temps hk)
    · exact .refl
  · exact .refl

theorem execRoundCap_effects {now : Time} (h : execRoundCap now s = .next t) : s.Effects t := by
  refine State.effects_of_unlessHeld h ?_
  beta_reduce
  split
  · exact .refl
  · rename_i hk
    exact .single (.roundCap hk)
  · exact .refl

theorem execIdlePass_effects {now : Time} {temps : Quad RawCode} (h : execIdlePass now temps s = .next t) :
    s.Effects t := by
  refine State.effects_of_unlessHeld h ?_
  beta_reduce
  split
  · exact .refl
  · rename_i hd
    split
    · exact .single (.idlePass temps hd)
    · exact .refl

theorem exec_effects (c : Instr) (h : exec c s = .next t) : s.Effects t := by
  cases c with
  | indexEdge now cards => exact State.effects_of_unlessHeld h (s.indexEdge_effects now cards)
  | sealRisingEdge now ref => exact execSealRisingEdge_effects h
  | round now press temps => exact execRound_effects h
  | roundCap now => exact execRoundCap_effects (now := now) h
  | sealFallingEdge now => exact State.effects_of_unlessHeld h (s.completeStroke_effects now)
  | idlePass now temps => exact execIdlePass_effects h
  | rejectPulseExpiry now lane => exact State.effects_of_unlessHeld h (s.expirePulse_effects now lane)
  | selfCheckExpiry now ref => exact State.effects_of_unlessHeld h (s.selfCheckExpiry_effects now ref)
  | storeWriteCompletion now accepted => exact State.effects_of_unlessHeld h (s.storeCompletion_effects now accepted)
  | storeWriteDeadline now => exact State.effects_of_unlessHeld h (s.storeDeadline_effects now)
  | partResetTaken now port => exact State.effects_of_unlessHeld h (s.resetTaken_effects now port)
  | responseSent now port => exact State.effects_of_unlessHeld h (s.responseSent_effects now port)
  | interByteGap now port => exact State.effects_of_unlessHeld h (.single (.ports s _))
  | powerOn now =>
    cases h
    exact .single (.reset s false _ s.resetHeld)
  | resetLineAssert now =>
    cases h
    exact .single (.reset s false none true)
  | resetLineRelease now =>
    cases h
    exact s.releaseReset_effects now
  | badLenFrame begun now port len =>
    cases h
    exact s.receiveByte_effects begun now port len
  | byteReceived begun now port byte stopOk =>
    cases h
    cases stopOk
    · exact .refl
    · exact s.receiveByte_effects begun now port byte
  | frameHeld | lostFrame | badCheck | unknown =>
    cases h
    exact frameComplete_effects ..
  | _ =>
    cases h
    exact submit_effects ..

/-- What a step can do: a chain of effects. -/
theorem step_effects (h : step s = .next t) : s.Effects t := by
  unfold step at h
  split at h
  · cases h
    exact .refl
  · exact .head (.pending s _) (exec_effects _ h)

/-- What every effect keeps, every step keeps. -/
theorem step_keeps {P : State → Prop} (hP : ∀ s t : State, s.Effect t → P s → P t) (hs : P s)
    (h : step s = .next t) : P t := by
  have he := step_effects h
  clear h
  induction he with
  | refl => exact hs
  | tail _ he ih => exact hP _ _ he ih

end

end Sys2Proof.Machine
end

section
/-! # Samples and sampling

The ranges that samples, doses, dwells, peaks and round counts keep to. What each operation makes of the lanes' samples
and of the stroke in flight is said first; the case split over the effects of a step rests on it. -/

namespace Sys2Proof.Machine
open Sys2Proof

/-! ## Conversion and the idle sample buffer -/

/-- R63: the model's clamp, whose lower end is the 0 of a natural number, is the one the rule gives. -/
theorem convertTemp_eq (cal : LaneCalibration) (c : RawCode) :
    convertTemp cal c =
      if c.toNat ≤ 8 ∨ 4087 ≤ c.toNat then none
      else some (max 0 (min 3000 (((c.toNat * cal.span / 4096 : Nat) : Int) + cal.base))).toNat := by
  simp only [convertTemp, tempFault, Bool.or_eq_true, decide_eq_true_eq]
  split
  · rfl
  · congr 1
    omega

/-- R63: a converted temperature lies in 0..3000. -/
theorem convertTemp_le {cal : LaneCalibration} {c : RawCode} {t : Nat} (h : convertTemp cal c = some t) :
    t ≤ 3000 := by
  rw [convertTemp_eq] at h
  split at h
  · cases h
  · cases h
    omega

theorem convertPress_of_fault {c : RawCode} (h : 4087 ≤ c.toNat) (cal : Calibration) : convertPress cal c = none :=
  if_pos h

theorem convertPress_of_good {c : RawCode} (h : c.toNat < 4087) (cal : Calibration) :
    convertPress cal c = some (c.toNat * cal.pspan / 4096) :=
  if_neg (Nat.not_le.mpr h)

/-- Settles O19: the clamp of R63, and of R64 the largest code by the largest span. -/
theorem converterCodes : Obligations.ConverterCodes := by
  refine ⟨convertTemp_eq, fun cal c => ⟨fun h => convertPress_of_fault h cal, fun h => convertPress_of_good h cal, ?_⟩⟩
  intro hspan p hp
  obtain hc | hc := Nat.lt_or_ge c.toNat 4087
  · rw [convertPress_of_good hc] at hp
    obtain rfl := Option.some.inj hp
    have hproduct : c.toNat * cal.pspan ≤ 4086 * 4000 := Nat.mul_le_mul (Nat.le_of_lt_succ hc) hspan
    omega
  · rw [convertPress_of_fault hc] at hp
    cases hp

/-- R68: a sample pushed, as the last eight of the samples with it. -/
theorem pushSample_eq {buffer : List Nat} (h : buffer.length ≤ 8) (t : Nat) :
    pushSample buffer t = (buffer ++ [t]).drop (buffer.length - 7) := by
  unfold pushSample
  split
  · rw [show buffer.length - 7 = 0 by omega]
    rfl
  · rw [show buffer.length - 7 = 1 by omega, List.drop_append_of_le_length (by omega), List.drop_one]

/-- R68: a buffer keeps at most eight temperatures of 0..3000. -/
theorem pushSample_bounds {buffer : List Nat} (hl : buffer.length ≤ 8) (hb : ∀ t ∈ buffer, t ≤ 3000) {t : Nat}
    (ht : t ≤ 3000) : (pushSample buffer t).length ≤ 8 ∧ ∀ x ∈ pushSample buffer t, x ≤ 3000 := by
  rw [pushSample_eq hl]
  refine ⟨by simp; omega, fun x hx => ?_⟩
  obtain hx | hx := List.mem_append.mp (List.mem_of_mem_drop hx)
  · exact hb x hx
  · exact List.mem_singleton.mp hx ▸ ht

section
variable {l : LaneSamples} {cal : LaneCalibration} {c : RawCode}

/-- R68: a good sample enters the buffer, and clears the fault mark when it makes eight. -/
theorem LaneSamples.sample_of_good {t : Nat} (h : convertTemp cal c = some t) :
    l.sample cal c =
      { l with
        buffer := pushSample l.buffer t
        faulted := l.faulted && decide ((pushSample l.buffer t).length < 8)
        lastRaw := some c } := by
  simp only [LaneSamples.sample, h]

/-- R69: a fault sample empties the buffer and sets the mark. -/
theorem LaneSamples.sample_of_fault (h : convertTemp cal c = none) :
    l.sample cal c = { l with buffer := [], faulted := true, lastRaw := some c } := by
  simp only [LaneSamples.sample, h]

@[simp] theorem LaneSamples.sample_lastRaw : (l.sample cal c).lastRaw = some c := by
  unfold LaneSamples.sample
  split <;> rfl

@[simp] theorem LaneSamples.sample_ready : (l.sample cal c).ready = l.ready := by
  unfold LaneSamples.sample
  split <;> rfl

theorem LaneSamples.inv_of_empty (hb : l.buffer = []) : l.inv := by
  simp [LaneSamples.inv, hb]

theorem LaneSamples.sample_inv (h : l.inv) : (l.sample cal c).inv := by
  obtain ⟨hl, hb, -⟩ := h
  rcases ht : convertTemp cal c with _ | t
  · rw [LaneSamples.sample_of_fault ht]
    exact LaneSamples.inv_of_empty rfl
  · rw [LaneSamples.sample_of_good ht]
    obtain ⟨hl', hb'⟩ := pushSample_bounds hl hb (convertTemp_le ht)
    refine ⟨hl', hb', fun hf => ?_⟩
    simp only [Bool.and_eq_true, decide_eq_true_eq] at hf
    exact hf.2

end

/-! ## Lanes sampled and evaluated (R67, R73) -/

/-- R73: an evaluation judges the samples and leaves them as they are. -/
theorem State.evaluateLane_inv {s : State} (h : ∀ n, (s.acq.lanes.get n).inv) (added : Bool) (lane n : Lane) :
    ((s.evaluateLane added lane).acq.lanes.get n).inv := by
  rw [State.evaluateLane_lanes]
  split <;> exact h n

theorem State.evaluateLanes_inv {s : State} (h : ∀ n, (s.acq.lanes.get n).inv) (before : Nat) (n : Lane) :
    ((s.evaluateLanes before).acq.lanes.get n).inv := by
  rw [State.evaluateLanes_lanes]
  split <;> exact h n

/-- What an idle pass makes of the lane that it serves. -/
def State.sampled (s : State) (temps : Quad RawCode) (lane : Lane) : LaneSamples :=
  (s.acq.lanes.get lane).sample (s.acq.calibration.lanes.get lane) (temps.get lane)

/-- R67, R73: the ready state that the lane's new samples give it. -/
def State.sampledReady (s : State) (temps : Quad RawCode) (lane : Lane) : ReadyState :=
  readyUnder ((s.assignedRecipe lane).map (·.2)) (s.sampled temps lane)

/-- A lane served by an idle pass: samples, ready states and events, and nothing else. -/
theorem State.sampleLane_eq (s : State) (temps : Quad RawCode) (lane : Lane) :
    s.sampleLane temps lane =
      (s.setAcq { s.acq with lanes := (s.sampleLane temps lane).acq.lanes }).setEvents
        (s.sampleLane temps lane).events := by
  unfold State.sampleLane
  rw [State.evaluateLane_eq]
  rfl

theorem State.sampleLane_lanes (s : State) (temps : Quad RawCode) (lane n : Lane) :
    (s.sampleLane temps lane).acq.lanes.get n =
      if lane = n then { s.sampled temps n with ready := s.sampledReady temps n } else s.acq.lanes.get n := by
  simp only [State.sampleLane, State.evaluateLane_lanes, State.readyNow, State.setAcq_acq, Quad.get_modify]
  split
  · rename_i h
    subst h
    simp only [if_true]
    rfl
  · rfl

/-- A lane not yet served finds what it would have found before. -/
theorem State.sampleLane_sampled (s : State) (temps : Quad RawCode) {lane n : Lane} (h : lane ≠ n) :
    (s.sampleLane temps lane).sampled temps n = s.sampled temps n ∧
      (s.sampleLane temps lane).sampledReady temps n = s.sampledReady temps n := by
  have hl := s.sampleLane_lanes temps lane n
  rw [if_neg h] at hl
  have hs : (s.sampleLane temps lane).sampled temps n = s.sampled temps n := by
    rw [State.sampled, hl, State.sampleLane_eq]
    rfl
  refine ⟨hs, ?_⟩
  rw [State.sampledReady, hs, State.sampleLane_eq]
  rfl

/-- R67: an idle pass samples the lanes below N and leaves the others. -/
theorem State.idlePass_lanes (s : State) (temps : Quad RawCode) (n : Lane) :
    (s.idlePass temps).acq.lanes.get n =
      if n.val < s.web.lanes then { s.sampled temps n with ready := s.sampledReady temps n }
      else s.acq.lanes.get n := by
  have hfold {l : List Lane} (hl : l.Nodup) (s : State) :
      (l.foldl (fun s n => s.sampleLane temps n) s).acq.lanes.get n =
        if n ∈ l then { s.sampled temps n with ready := s.sampledReady temps n } else s.acq.lanes.get n := by
    induction l generalizing s with
    | nil => rfl
    | cons a l ih =>
      obtain ⟨ha, hl⟩ := List.nodup_cons.mp hl
      rw [List.foldl_cons, ih hl, State.sampleLane_lanes]
      by_cases hn : a = n
      · subst hn
        simp [ha]
      · obtain ⟨hs, hr⟩ := s.sampleLane_sampled temps hn
        simp [hs, hr, hn, Ne.symm hn]
  have h := hfold (lanesBelow_nodup s.web.lanes) s
  simp only [mem_lanesBelow] at h
  exact h

/-- An idle pass changes samples, ready states and events, and nothing else. -/
theorem State.idlePass_eq (s : State) (temps : Quad RawCode) :
    ∃ lanes events, s.idlePass temps = (s.setAcq { s.acq with lanes := lanes }).setEvents events := by
  unfold State.idlePass
  generalize lanesBelow s.web.lanes = l
  suffices h : ∀ t : State, (∃ lanes events, t = (s.setAcq { s.acq with lanes := lanes }).setEvents events) →
      ∃ lanes events, l.foldl (fun s n => s.sampleLane temps n) t =
        (s.setAcq { s.acq with lanes := lanes }).setEvents events from h s ⟨s.acq.lanes, s.events, rfl⟩
  induction l with
  | nil => exact fun t h => h
  | cons a l ih =>
    rintro t ⟨lanes, events, rfl⟩
    exact ih _ ⟨_, _, State.sampleLane_eq _ temps a⟩

theorem State.idlePass_inv {s : State} (h : ∀ n, (s.acq.lanes.get n).inv) (temps : Quad RawCode) (n : Lane) :
    ((s.idlePass temps).acq.lanes.get n).inv := by
  rw [State.idlePass_lanes]
  split
  · exact (LaneSamples.sample_inv (h n) : (s.sampled temps n).inv)
  · exact h n

/-! ## The stroke in flight (R79, R89 to R91) -/

/-- R88: a round in which either channel gave a fault sample. -/
theorem StrokeLane.addRound_of_fault {l : StrokeLane} {x : RecipeSlot × SealLimits} (hu : l.used = some x)
    {press temp : Option Nat} (h : press = none ∨ temp = none) :
    l.addRound press temp = { l with faulted := true } := by
  obtain ⟨slot, lim⟩ := x
  simp only [StrokeLane.addRound, hu]
  obtain rfl | rfl := h
  · rfl
  · cases press <;> rfl

/-- R88: a lane that is not evaluated takes no part in a round. -/
theorem StrokeLane.addRound_of_unused {l : StrokeLane} (hu : l.used = none) (press temp : Option Nat) :
    l.addRound press temp = l := by
  simp only [StrokeLane.addRound, hu]

/-- R89, R90: a good round raises the peak and, in contact, adds to dwell and dose. -/
theorem StrokeLane.addRound_of_good {l : StrokeLane} {slot : RecipeSlot} {lim : SealLimits}
    (hu : l.used = some (slot, lim)) (p t : Nat) :
    l.addRound (some p) (some t) =
      { l with
        peak := some (max t (l.peak.getD t))
        dwell := if lim.pMin ≤ p then l.dwell + 1 else l.dwell
        dose := if lim.pMin ≤ p then min doseLimit (l.dose + excess lim t) else l.dose } := by
  simp only [StrokeLane.addRound, hu]
  split <;> rfl

theorem StrokeLane.captured_inv (serial : Option Serial) (used : Option (RecipeSlot × SealLimits)) (rounds : Nat) :
    (StrokeLane.captured serial used).inv rounds := ⟨Nat.zero_le _, Nat.zero_le _, nofun⟩

/-- R83: no round has yet been added into a lane as it is captured. -/
theorem State.captureLane_inv (s : State) (lane : Lane) (rounds : Nat) : (s.captureLane lane).inv rounds := by
  unfold State.captureLane
  split <;> exact StrokeLane.captured_inv ..

theorem StrokeLane.inv.addRound {l : StrokeLane} {rounds : Nat} (h : l.inv rounds) (press : Option Nat)
    {temp : Option Nat} (ht : ∀ t, temp = some t → t ≤ 3000) : (l.addRound press temp).inv (rounds + 1) := by
  obtain ⟨hdwell, hdose, hpeak⟩ := h
  rcases hu : l.used with _ | ⟨slot, lim⟩
  · rw [StrokeLane.addRound_of_unused hu]
    exact ⟨Nat.le_succ_of_le hdwell, hdose, hpeak⟩
  · by_cases hf : press = none ∨ temp = none
    · rw [StrokeLane.addRound_of_fault hu hf]
      exact ⟨Nat.le_succ_of_le hdwell, hdose, hpeak⟩
    · obtain ⟨hp, hn⟩ := not_or.mp hf
      obtain ⟨p, rfl⟩ := Option.ne_none_iff_exists'.mp hp
      obtain ⟨t, rfl⟩ := Option.ne_none_iff_exists'.mp hn
      have ht := ht t rfl
      rw [StrokeLane.addRound_of_good hu]
      refine ⟨?_, ?_, fun x hx => ?_⟩
      · dsimp only
        split <;> omega
      · dsimp only
        split
        · exact Nat.min_le_left ..
        · exact hdose
      · obtain rfl := Option.some.inj hx
        rcases hl : l.peak with _ | peak
        · simpa using ht
        · simpa using ⟨ht, hpeak peak hl⟩

theorem Acquisition.roundTemp_le {a : Acquisition} {lanes : Nat} {temps : Quad RawCode} {lane : Lane} {t : Nat}
    (h : a.roundTemp lanes temps lane = some t) : t ≤ 3000 := by
  unfold Acquisition.roundTemp at h
  split at h
  · exact convertTemp_le h
  · cases h

/-- R91: a stroke with at most 2048 rounds is capped exactly when it has them all. -/
theorem capOrContinue_inv {k : Stroke} (hr : k.rounds ≤ 2048) (hl : k.long = false)
    (h : ∀ n, (k.lanes.get n).inv k.rounds) (next : Time) : (capOrContinue next k).inv := by
  unfold capOrContinue roundLimit
  split
  · exact ⟨by dsimp only; omega, rfl, h⟩
  · exact ⟨by omega, hl, h⟩

/-- R31, R78, R104: the buffers after a reset are empty and no stroke is in flight. -/
theorem State.afterReset_samplesInv (s : State) (keep : Bool) (wake : Option Wake) :
    (s.afterReset keep wake).samplesInv := by
  refine ⟨fun n => ?_, trivial⟩
  show LaneSamples.inv ((Quad.ofFn _).get n)
  rw [Quad.get_ofFn]
  exact LaneSamples.fresh_inv _

/-! ## The samples across each effect -/

section
variable {s t : State}

/-- The end of a stroke leaves nothing in flight. -/
theorem State.samplesInv_of_idle (h : ∀ n, (t.acq.lanes.get n).inv) (hk : t.stroke.phase = .idle) : t.samplesInv :=
  ⟨h, hk ▸ trivial⟩

theorem Acquisition.emptyBuffers_inv (a : Acquisition) (n : Lane) : (a.emptyBuffers.lanes.get n).inv := by
  show LaneSamples.inv ((Quad.map _ _).get n)
  rw [Quad.get_map]
  exact LaneSamples.inv_of_empty rfl

theorem Acquisition.holdLanes_inv {a : Acquisition} (h : ∀ n, (a.lanes.get n).inv) (lanes : Nat) (n : Lane) :
    ((a.holdLanes lanes).lanes.get n).inv := by
  show LaneSamples.inv ((Quad.restrict _ _ _).get n)
  rw [Quad.get_restrict]
  split
  · exact h n
  · exact LaneSamples.fresh_inv _

theorem State.index_samplesInv (hs : s.samplesInv) (now : Time) (cards : Quad Bool) :
    ((s.aborted now cards).gateIndex now).drainCheck.samplesInv := by
  have hgate := (s.aborted now cards).gateIndex_drainCheck_from now
  have habort := s.aborted_from now cards
  refine State.samplesInv_of_idle ?_ ?_
  · rw [hgate.acq, habort.acq]
    split <;> exact hs.1
  · rw [hgate.stroke, habort.stroke]
    split
    · assumption
    · rfl

theorem State.startStroke_samplesInv (hs : s.samplesInv) (now : Time) (ref : RawCode) :
    (s.startStroke now ref).samplesInv := by
  refine ⟨hs.1, Nat.two_pow_pos 11, rfl, fun n => ?_⟩
  show StrokeLane.inv ((Quad.ofFn _).get n) 0
  rw [Quad.get_ofFn]
  split
  · exact s.captureLane_inv n 0
  · exact StrokeLane.captured_inv ..

theorem State.strokeRound_samplesInv (hs : s.samplesInv) {due : Time} {k : Stroke}
    (h : s.stroke.phase = .sampling due k) (press : RawCode) (temps : Quad RawCode) :
    (s.strokeRound due k press temps).samplesInv := by
  obtain ⟨hlanes, hk⟩ := hs
  rw [h] at hk
  obtain ⟨hrounds, hlong, hk⟩ := hk
  refine ⟨fun n => ?_, capOrContinue_inv (k := k.addRound _ _) hrounds hlong (fun n => ?_) _⟩
  · show LaneSamples.inv ((Quad.ofFn _).get n)
    rw [Quad.get_ofFn]
    split <;> exact hlanes n
  · show StrokeLane.inv ((Quad.ofFn _).get n) _
    rw [Quad.get_ofFn]
    exact (hk n).addRound _ fun t => Acquisition.roundTemp_le

theorem State.roundCap_samplesInv (hs : s.samplesInv) {due : Time} {k : Stroke}
    (h : s.stroke.phase = .sampling due k) :
    (s.setStroke { s.stroke with phase := capOrContinue due k }).samplesInv := by
  obtain ⟨hlanes, hk⟩ := hs
  rw [h] at hk
  obtain ⟨hrounds, hlong, hk⟩ := hk
  exact ⟨hlanes, capOrContinue_inv hrounds.le hlong hk due⟩

theorem State.endStroke_samplesInv (hs : s.samplesInv) (now : Time) (k : Stroke) (kind : EndKind)
    (verdict : StrokeLane → ReportVerdict) : (s.endStroke now k kind verdict).samplesInv := by
  rw [State.endStroke_eq]
  exact State.samplesInv_of_idle hs.1 rfl

theorem State.abortStroke_samplesInv (hs : s.samplesInv) (now : Time) : (s.abortStroke now).samplesInv := by
  unfold State.abortStroke
  split
  · exact State.endStroke_samplesInv hs ..
  · exact hs

theorem State.evaluateLane_samplesInv (hs : s.samplesInv) (added : Bool) (lane : Lane) :
    (s.evaluateLane added lane).samplesInv := by
  refine ⟨State.evaluateLane_inv hs.1 added lane, ?_⟩
  rw [(s.evaluateLane_leaves added lane).stroke]
  exact hs.2

theorem State.evaluateLanes_samplesInv (hs : s.samplesInv) (before : Nat) : (s.evaluateLanes before).samplesInv := by
  refine ⟨State.evaluateLanes_inv hs.1 before, ?_⟩
  rw [(s.evaluateLanes_leaves before).stroke]
  exact hs.2

theorem State.enterStandby_samplesInv (hs : s.samplesInv) (now : Time) : (s.enterStandby now).samplesInv := by
  refine State.evaluateLanes_samplesInv (?_ : State.samplesInv (State.setAcq _ _)) _
  have hk := (State.abortStroke_samplesInv (s := s.changeMode .standby) hs now).2
  exact ⟨Acquisition.emptyBuffers_inv _, hk⟩

theorem State.completeWrite_samplesInv (hs : s.samplesInv) (w : StoreWrite) : (s.completeWrite w).samplesInv := by
  unfold State.completeWrite
  split
  · refine State.evaluateLanes_samplesInv (?_ : State.samplesInv (State.setMode _ _)) _
    exact ⟨Acquisition.holdLanes_inv (Acquisition.emptyBuffers_inv _) _, hs.2⟩
  · exact hs

theorem State.abandonWrite_samplesInv (hs : s.samplesInv) (w : StoreWrite) : (s.abandonWrite w).samplesInv := by
  unfold State.abandonWrite
  split <;> exact hs

theorem State.completeSelfCheck_samplesInv (hs : s.samplesInv) (now : Time) (w : Wake) (ref : RawCode) :
    (s.completeSelfCheck now w ref).samplesInv := by
  have hend {u : State} (hu : u.samplesInv) (m : ModeController) (before : Nat) :
      (((((u.judgeReference ref .wake).setMode m).evaluateLanes before).startIdle now).raiseAll
        (wakeFlag w.origin)).samplesInv :=
    State.evaluateLanes_samplesInv (s := (u.judgeReference ref .wake).setMode m) hu before
  simp only [State.completeSelfCheck]
  refine hend ?_ _ _
  split
  · exact hs
  · exact ⟨Acquisition.holdLanes_inv (a := { s.acq with calibration := factoryDefault.calibration }) hs.1 _, hs.2⟩

theorem State.drainCheck_samplesInv (hs : s.samplesInv) : s.drainCheck.samplesInv := by
  obtain ⟨-, -, h⟩ | ⟨-, h⟩ := s.drainCheck_cases <;> rw [h] <;> exact hs

/-- R68, R69, R79, R89 to R91, across each effect. -/
theorem State.Effect.samplesInv (h : s.Effect t) (hs : s.samplesInv) : t.samplesInv := by
  cases h with
  | pending | ports | events | pulses | rows | indexFrozen | waking | start | webBreak | webBreakRunning | laneMask
  | acceptRecipe | acceptConfiguration | masks => exact hs
  | index now cards => exact State.index_samplesInv hs now cards
  | strokeStart now ref => exact State.startStroke_samplesInv hs now ref
  | round press temps hk => exact State.strokeRound_samplesInv hs hk press temps
  | roundCap hk => exact State.roundCap_samplesInv hs hk
  | strokeEnd now => exact State.endStroke_samplesInv hs ..
  | idlePass temps =>
    refine ⟨State.idlePass_inv hs.1 temps, ?_⟩
    rw [State.startIdle, State.setAcq_stroke, (s.idlePass_leaves temps).stroke]
    exact hs.2
  | selfCheck now ref => exact State.completeSelfCheck_samplesInv hs ..
  | written => exact State.completeWrite_samplesInv hs _
  | abandoned => exact State.abandonWrite_samplesInv hs _
  | reset keep wake held => exact s.afterReset_samplesInv keep wake
  | standby now => exact State.enterStandby_samplesInv hs now
  | stop => exact State.drainCheck_samplesInv (s := s.changeMode .drain) hs
  | assign =>
    rw [State.assign]
    refine State.evaluateLane_samplesInv ?_ false _
    exact hs

end

/-- Settles O21: every effect keeps the samples and the stroke in flight in their ranges. -/
theorem stepKeepsSamplesInv : Obligations.StepKeepsSamplesInv := by
  intro s t hs h
  exact step_keeps (fun _ _ he hs => he.samplesInv hs) hs h

end Sys2Proof.Machine
end

section
/-! # Idle sampling and strokes

When the idle pass timer runs and when a stroke is in flight; then what one idle pass and one round do. -/

namespace Sys2Proof.Machine
open Sys2Proof

/-! ## The end of a stroke and the change into STANDBY -/

section
variable (s : State) (now : Time)

theorem State.abortStroke_of_idle {s : State} (h : s.stroke.phase = .idle) (now : Time) : s.abortStroke now = s := by
  simp only [State.abortStroke, State.stroke?_of_idle h]

theorem State.abortStroke_of_stroke {s : State} {k : Stroke} (h : s.stroke.phase.stroke? = some k) (now : Time) :
    s.abortStroke now = s.endStroke now k .aborted k.abortVerdict := by
  simp only [State.abortStroke, h]

/-- R98, R101: an abort changes records, the idle pass timer, the Stroke Evaluator and events, and nothing else. -/
theorem State.abortStroke_frame :
    s.abortStroke now =
      { s with
        web := { s.web with rows := (s.abortStroke now).web.rows }
        acq := { s.acq with idleDue := (s.abortStroke now).acq.idleDue }
        stroke := (s.abortStroke now).stroke
        events := (s.abortStroke now).events } := by
  unfold State.abortStroke
  split
  · rw [State.endStroke_eq]
    rfl
  · rfl

theorem State.abortStroke_phase : (s.abortStroke now).stroke.phase = .idle := by
  by_cases hi : s.stroke.phase = .idle
  · rw [State.abortStroke_of_idle hi, hi]
  · obtain ⟨k, hk⟩ := StrokePhase.exists_stroke hi
    rw [State.abortStroke_of_stroke hk, State.endStroke_eq]
    rfl

/-- R71, R99, R126: the part in STANDBY, before its lanes are judged anew. -/
def State.standingBy : State :=
  let s := (s.changeMode .standby).abortStroke now
  s.setAcq { s.acq.emptyBuffers with idleDue := none }

theorem State.enterStandby_eq : s.enterStandby now = (s.standingBy now).evaluateLanes s.web.lanes := by
  show (s.standingBy now).evaluateLanes (s.standingBy now).web.lanes = _
  congr 1
  rw [State.standingBy, State.abortStroke_frame]
  rfl

/-- R71, R99, R126: the change into STANDBY changes records, lanes, the idle pass timer, the Stroke Evaluator, the mode
and events, and nothing else. -/
theorem State.enterStandby_frame :
    s.enterStandby now =
      { s with
        web := { s.web with rows := (s.enterStandby now).web.rows }
        acq := { s.acq with lanes := (s.enterStandby now).acq.lanes, idleDue := none }
        stroke := ((s.changeMode .standby).abortStroke now).stroke
        mode := { s.mode with mode := .standby }
        events := (s.enterStandby now).events } := by
  obtain ⟨lanes, events, h⟩ := (s.standingBy now).evaluateLanes_eq s.web.lanes
  rw [State.enterStandby_eq, h, State.standingBy, State.abortStroke_frame]
  rfl

end

/-! ## When sampling runs (R67, R70, R71, R80, R135) -/

theorem capOrContinue_ne_idle (next : Time) (k : Stroke) : capOrContinue next k ≠ .idle := by
  unfold capOrContinue
  split <;> nofun

section
variable {s t : State}

/-- R135: no self-check runs in SETUP, RUN and DRAIN. -/
theorem State.samplingInv.wake_eq_none (hs : s.samplingInv) (ha : s.mode.mode.active = true) : s.mode.wake = none := by
  obtain ⟨hwake, -, -⟩ := hs
  by_contra h
  rw [hwake (Option.isSome_iff_ne_none.mpr h)] at ha
  cases ha

/-- R135: no stroke is in flight while a self-check runs. -/
theorem State.samplingInv.idle_of_wake (hs : s.samplingInv) {w : Wake} (hw : s.mode.wake = some w) :
    s.stroke.phase = .idle := by
  obtain ⟨hwake, hstroke, -⟩ := hs
  by_contra h
  have ha := hstroke h
  rw [hwake (by rw [hw]; rfl)] at ha
  cases ha

/-- Where no self-check runs, sampling must run in SETUP, RUN and DRAIN with no stroke in flight. -/
theorem State.samplingInv_of_no_wake (hw : t.mode.wake = none) (hk : t.stroke.phase ≠ .idle → t.mode.mode.active = true)
    (hd : t.acq.idleDue.isSome = true ↔ t.mode.mode.active = true ∧ t.stroke.phase = .idle) : t.samplingInv :=
  ⟨fun h => absurd hw (Option.isSome_iff_ne_none.mp h), hk, hd⟩

/-- A stroke in flight stays in flight, with idle sampling stopped. -/
theorem State.samplingInv.setStroke (hs : s.samplingInv) {e : StrokeEvaluator} (h : s.stroke.phase ≠ .idle)
    (he : e.phase ≠ .idle) : (s.setStroke e).samplingInv := by
  obtain ⟨hwake, hstroke, hidle⟩ := hs
  exact ⟨hwake, fun _ => hstroke h, hidle.trans (by simp [h, he])⟩

theorem State.changeMode_samplingInv (hs : s.samplingInv) (ha : s.mode.mode.active = true) {m : Mode}
    (hm : m.active = true) : (s.changeMode m).samplingInv := by
  have hw := hs.wake_eq_none ha
  obtain ⟨-, -, hidle⟩ := hs
  refine State.samplingInv_of_no_wake hw (fun _ => hm) (hidle.trans ?_)
  rw [ha]
  exact and_congr_left' (iff_of_true rfl hm)

theorem State.drainCheck_samplingInv (hs : s.samplingInv) : s.drainCheck.samplingInv := by
  obtain ⟨hm, -, h⟩ | ⟨-, h⟩ := s.drainCheck_cases <;> rw [h]
  · exact State.changeMode_samplingInv hs (by rw [hm]; rfl) rfl
  · exact hs

/-- R101: the end of a stroke starts idle sampling again. -/
theorem State.endStroke_samplingInv (hs : s.samplingInv) (h : s.stroke.phase ≠ .idle) (now : Time) (k : Stroke)
    (kind : EndKind) (verdict : StrokeLane → ReportVerdict) : (s.endStroke now k kind verdict).samplingInv := by
  have ha : s.mode.mode.active = true := by
    obtain ⟨-, hstroke, -⟩ := hs
    exact hstroke h
  rw [State.endStroke_eq]
  refine State.samplingInv_of_no_wake (hs.wake_eq_none ha) (fun _ => ha) (iff_of_true ?_ ⟨ha, rfl⟩)
  show Option.isSome (if s.mode.mode.active = true then _ else _) = true
  rw [if_pos ha]
  rfl

theorem State.abortStroke_samplingInv (hs : s.samplingInv) (now : Time) : (s.abortStroke now).samplingInv := by
  by_cases hi : s.stroke.phase = .idle
  · rwa [State.abortStroke_of_idle hi]
  · obtain ⟨k, hk⟩ := StrokePhase.exists_stroke hi
    rw [State.abortStroke_of_stroke hk]
    exact State.endStroke_samplingInv hs hi ..

theorem State.index_samplingInv (hs : s.samplingInv) (now : Time) (cards : Quad Bool) :
    ((s.aborted now cards).gateIndex now).drainCheck.samplingInv := by
  refine State.drainCheck_samplingInv ?_
  rw [State.gateIndex_eq]
  refine (State.abortStroke_samplingInv ?_ now : (s.aborted now cards).samplingInv)
  rw [State.verdictIndex_eq]
  exact hs

/-- R80: a stroke starts, and idle sampling stops. -/
theorem State.startStroke_samplingInv (hs : s.samplingInv) (ha : s.mode.mode.active = true) (now : Time)
    (ref : RawCode) : (s.startStroke now ref).samplingInv :=
  State.samplingInv_of_no_wake (hs.wake_eq_none ha) (fun _ => ha) (iff_of_false nofun fun h => nomatch h.2)

theorem State.idlePass_samplingInv (hs : s.samplingInv) {due : Time} (hd : s.acq.idleDue = some due)
    (temps : Quad RawCode) : ((s.idlePass temps).startIdle due).samplingInv := by
  obtain ⟨lanes, events, h⟩ := s.idlePass_eq temps
  obtain ⟨hwake, hstroke, hidle⟩ := hs
  rw [h]
  exact ⟨hwake, hstroke, iff_of_true rfl (hidle.mp (by rw [hd]; rfl))⟩

theorem State.evaluateLanes_samplingInv (hs : s.samplingInv) (before : Nat) : (s.evaluateLanes before).samplingInv := by
  obtain ⟨lanes, events, h⟩ := s.evaluateLanes_eq before
  rw [h]
  exact hs

/-- R136: the mode is SETUP and idle sampling starts; no stroke was in flight in WAKING. -/
theorem State.completeSelfCheck_samplingInv (hs : s.samplingInv) {w : Wake} (hw : s.mode.wake = some w) (now : Time)
    (ref : RawCode) : (s.completeSelfCheck now w ref).samplingInv := by
  have hend {u : State} (hi : u.stroke.phase = .idle) (state : ConfigState) (before : Nat) :
      ((((u.setMode { u.mode with configState := state, mode := .setup, wake := none }).evaluateLanes before).startIdle
        now).raiseAll (wakeFlag w.origin)).samplingInv := by
    obtain ⟨lanes, events, h⟩ :=
      (u.setMode { u.mode with configState := state, mode := .setup, wake := none }).evaluateLanes_eq before
    rw [h]
    exact State.samplingInv_of_no_wake rfl (fun _ => rfl) (iff_of_true rfl ⟨rfl, hi⟩)
  have hi := hs.idle_of_wake hw
  simp only [State.completeSelfCheck]
  refine hend ?_ _ _
  split <;> exact hi

/-- R71, R99: in STANDBY no stroke is in flight and idle sampling is stopped. -/
theorem State.enterStandby_samplingInv (hs : s.samplingInv) (ha : s.mode.mode.active = true) (now : Time) :
    (s.enterStandby now).samplingInv := by
  have hi : ((s.changeMode .standby).abortStroke now).stroke.phase = .idle := State.abortStroke_phase _ now
  rw [State.enterStandby_frame]
  exact State.samplingInv_of_no_wake (hs.wake_eq_none ha) (fun h => absurd hi h) (iff_of_false nofun fun h => nomatch h.1)

theorem State.completeWrite_samplingInv (hs : s.samplingInv) (w : StoreWrite) : (s.completeWrite w).samplingInv := by
  unfold State.completeWrite
  split
  · refine State.evaluateLanes_samplingInv (?_ : State.samplingInv (State.setMode _ _)) _
    exact hs
  · exact hs

theorem State.abandonWrite_samplingInv (hs : s.samplingInv) (w : StoreWrite) : (s.abandonWrite w).samplingInv := by
  unfold State.abandonWrite
  split <;> exact hs

theorem State.leaveStandby_samplingInv (hs : s.samplingInv) (hm : s.mode.mode = .standby) (now : Time) :
    (s.leaveStandby now).samplingInv := by
  obtain ⟨-, hstroke, hidle⟩ := hs
  rw [hm] at hstroke hidle
  exact ⟨fun _ => rfl, hstroke, hidle⟩

theorem State.assign_samplingInv (hs : s.samplingInv) (lane : Lane) (recipe : Option RecipeSlot) :
    (s.assign lane recipe).samplingInv := by
  rw [State.assign, State.evaluateLane_eq]
  exact hs

theorem Mode.active_of_producing {m : Mode} (h : m.producing = true) : m.active = true := by
  cases m with
  | standby | waking | setup => cases h
  | run | drain => rfl

/-- R67, R70, R71, R80, R135 across each effect. -/
theorem State.Effect.samplingInv (h : s.Effect t) (hs : s.samplingInv) : t.samplingInv := by
  cases h with
  | pending | ports | events | pulses | rows | indexFrozen | webBreak | laneMask | acceptRecipe | acceptConfiguration
  | masks => exact hs
  | index now cards => exact State.index_samplingInv hs now cards
  | strokeStart now ref _ ha => exact State.startStroke_samplingInv hs ha now ref
  | round press temps hk =>
    refine State.samplingInv.setStroke (s := s.setAcq _) ?_ ?_ (capOrContinue_ne_idle _ _)
    · exact hs
    · simp [hk]
  | roundCap hk => exact hs.setStroke (by simp [hk]) (capOrContinue_ne_idle _ _)
  | strokeEnd now hk =>
    refine State.endStroke_samplingInv hs (fun hi => ?_) ..
    rw [State.stroke?_of_idle hi] at hk
    cases hk
  | idlePass temps hd => exact State.idlePass_samplingInv hs hd temps
  | selfCheck now ref hw => exact State.completeSelfCheck_samplingInv hs hw now ref
  | written => exact State.completeWrite_samplingInv hs _
  | abandoned => exact State.abandonWrite_samplingInv hs _
  | reset keep wake held => exact ⟨fun _ => rfl, fun h => absurd rfl h, iff_of_false nofun fun h => nomatch h.1⟩
  | standby now ha => exact State.enterStandby_samplingInv hs ha now
  | waking now hm => exact State.leaveStandby_samplingInv hs hm now
  | start h =>
    refine State.changeMode_samplingInv hs ?_ rfl
    obtain hm | ⟨hm, -⟩ := h <;> rw [hm] <;> rfl
  | stop hm => exact State.drainCheck_samplingInv (State.changeMode_samplingInv hs (by rw [hm]; rfl) rfl)
  | webBreakRunning hp => exact State.changeMode_samplingInv (s := s.loseTrack) hs (Mode.active_of_producing hp) rfl
  | assign => exact State.assign_samplingInv hs _ _

end

/-- Settles O22: every effect keeps idle sampling, strokes and self-checks to their modes. -/
theorem stepKeepsSamplingInv : Obligations.StepKeepsSamplingInv := by
  intro s t hs h
  exact step_keeps (fun _ _ he hs => he.samplingInv hs) hs h

/-! ## An idle pass (R67 to R69, R72 to R74) -/

theorem exec_idlePass {s : State} {now due : Time} (hr : s.resetHeld = false) (hd : s.acq.idleDue = some due)
    (h : due ≤ now) (temps : Quad RawCode) :
    exec (.idlePass now temps) s = .next ((s.idlePass temps).startIdle due) := by
  show execIdlePass now temps s = _
  simp only [execIdlePass, State.unlessHeld, hr, hd, h, if_true, Bool.false_eq_true, if_false]

/-- A ready state as `readyNow` gives it is the one the samples have. -/
theorem State.readyJudged_of_eq {s : State} {lane : Lane} (h : (s.acq.lanes.get lane).ready = s.readyNow lane) :
    s.readyJudged lane := by
  rw [State.readyJudged, h]
  exact readyUnder_holds _ _

theorem State.sampleLane_raises (s : State) (temps : Quad RawCode) (lane : Lane) :
    s.raises (s.sampleLane temps lane) fun p f =>
      s.sampledReady temps lane ≠ (s.acq.lanes.get lane).ready ∧
        s.verdict.stations.heatSeal.port = some p ∧ f = .readyChange := by
  refine ((State.evaluateLane_raises (s.setAcq _) false lane).of_events rfl rfl).congr fun p f => ?_
  simp only [State.readyNow, State.setAcq_acq, Quad.get_modify_self, LaneSamples.sample_ready, Bool.false_eq_true,
    false_or]
  exact Iff.rfl

/-- R74: READY_CHANGE where the ready state of some lane below N moves. -/
theorem State.idlePass_raises (s : State) (temps : Quad RawCode) :
    s.raises (s.idlePass temps) fun p f =>
      (∃ lane : Lane, lane.val < s.web.lanes ∧ s.sampledReady temps lane ≠ (s.acq.lanes.get lane).ready) ∧
        s.verdict.stations.heatSeal.port = some p ∧ f = .readyChange := by
  have hkeep (s : State) (a b : Lane) (h : a ≠ b) (p : Port) (f : EventFlag) :
      ((s.sampleLane temps a).sampledReady temps b ≠ ((s.sampleLane temps a).acq.lanes.get b).ready ∧
        (s.sampleLane temps a).verdict.stations.heatSeal.port = some p ∧ f = .readyChange) ↔
      s.sampledReady temps b ≠ (s.acq.lanes.get b).ready ∧
        s.verdict.stations.heatSeal.port = some p ∧ f = .readyChange := by
    rw [(s.sampleLane_sampled temps h).2, State.sampleLane_lanes, if_neg h, State.sampleLane_eq]
    exact Iff.rfl
  refine (State.raises_foldl
    (cond := fun s lane p f => s.sampledReady temps lane ≠ (s.acq.lanes.get lane).ready ∧
      s.verdict.stations.heatSeal.port = some p ∧ f = .readyChange)
    (fun s lane => s.sampleLane_raises temps lane) hkeep (lanesBelow_nodup s.web.lanes) s).congr fun p f => ?_
  simp only [mem_lanesBelow, ← and_assoc, exists_and_right]

/-- A ready state rests on the samples, the assignments and the store alone. -/
theorem State.idlePass_readyNow (s : State) (temps : Quad RawCode) (lane : Lane) :
    (s.idlePass temps).readyNow lane =
      readyUnder ((s.assignedRecipe lane).map (·.2)) ((s.idlePass temps).acq.lanes.get lane) := by
  obtain ⟨lanes, events, h⟩ := s.idlePass_eq temps
  rw [h]
  rfl

/-- Settles O20: each lane below N is served once, and finds what it would have found alone. -/
theorem idlePassSamples : Obligations.IdlePassSamples := by
  intro now due temps s hr hs hd hdue
  have hserved {lane : Lane} (hl : lane.val < s.web.lanes) :
      ((s.idlePass temps).startIdle due).acq.lanes.get lane =
        { s.sampled temps lane with ready := s.sampledReady temps lane } :=
    (s.idlePass_lanes temps lane).trans (if_pos hl)
  have hmoved : s.readyMoved ((s.idlePass temps).startIdle due) ↔
      ∃ lane : Lane, lane.val < s.web.lanes ∧ s.sampledReady temps lane ≠ (s.acq.lanes.get lane).ready := by
    unfold State.readyMoved
    rw [show ((s.idlePass temps).startIdle due).web = s.web from (s.idlePass_leaves temps).web]
    refine exists_congr fun lane => and_congr_right fun hl => ?_
    rw [hserved hl]
  refine ⟨_, exec_idlePass hr hd hdue temps, fun lane hl => ⟨?_, ?_, ?_⟩, fun lane hl => ?_,
    ((s.idlePass_raises temps).of_events rfl rfl).congr fun p f => ?_, ?_⟩
  · rw [hserved hl]
    exact LaneSamples.sample_lastRaw
  · refine State.readyJudged_of_eq ((?_ : _ = _).trans (s.idlePass_readyNow temps lane).symm)
    rw [hserved hl, (s.idlePass_lanes temps lane).trans (if_pos hl)]
    rfl
  · rw [hserved hl, State.sampled]
    cases hc : convertTemp (s.acq.calibration.lanes.get lane) (temps.get lane) with
    | none =>
      rw [LaneSamples.sample_of_fault hc]
      exact ⟨rfl, rfl⟩
    | some good =>
      rw [LaneSamples.sample_of_good hc]
      refine ⟨pushSample_eq (hs.1 lane).1 good, ?_⟩
      simp only [Bool.and_eq_true, decide_eq_true_eq]
  · exact (s.idlePass_lanes temps lane).trans (if_neg (Nat.not_lt.mpr hl))
  · rw [hmoved]
    tauto
  · obtain ⟨lanes, events, h⟩ := s.idlePass_eq temps
    rw [h]
    rfl

end Sys2Proof.Machine
end

section
/-! # A round of a stroke, and the reads of the Acquisition Unit and the Stroke Evaluator -/

namespace Sys2Proof.Machine
open Sys2Proof

/-! ## A round (R61, R87 to R92) -/

theorem exec_round {s : State} {now due : Time} {k : Stroke} (hr : s.resetHeld = false)
    (hk : s.stroke.phase = .sampling due k) (h : due ≤ now) (press : RawCode) (temps : Quad RawCode) :
    exec (.round now press temps) s = .next (s.strokeRound due k press temps) := by
  show execRound now press temps s = _
  simp only [execRound, State.unlessHeld, hr, hk, h, if_true, Bool.false_eq_true, if_false]

/-- R61: the raw codes of a round, lane by lane. -/
theorem Acquisition.roundCodes_eq (a : Acquisition) (lanes : Nat) (press : RawCode) (temps : Quad RawCode) :
    a.roundCodes lanes press temps =
      { a with
        pressRaw := some press
        lanes := Quad.ofFn fun lane =>
          { a.lanes.get lane with
            lastRaw := if lane.val < lanes then some (temps.get lane) else (a.lanes.get lane).lastRaw } } := by
  unfold Acquisition.roundCodes
  congr 2
  funext lane
  split <;> rfl

/-- R91: the 2048th round caps the stroke. -/
theorem capOrContinue_eq {k k' : Stroke} (h : k'.rounds = k.rounds + 1) (next : Time) :
    capOrContinue next k' = if 2047 ≤ k.rounds then .capped { k' with long := true } else .sampling next k' := by
  have hiff : roundLimit ≤ k'.rounds ↔ 2047 ≤ k.rounds := by
    rw [h]
    exact Nat.succ_le_succ_iff
  simp only [capOrContinue, hiff]

/-- R90: the excess is nothing below T_act. -/
theorem excess_eq (lim : SealLimits) (t : Nat) :
    excess lim t = if t < lim.tAct then 0 else min lim.eCap (t - lim.tAct) := by
  unfold excess
  split <;> omega

/-- R89: the first good round's temperature is the peak. -/
theorem max_peak (t : Nat) (peak : Option Nat) : max t (peak.getD t) = max t (peak.getD 0) := by
  cases peak <;> simp

/-- Settles O25: lane by lane what the round adds, and the cap. -/
theorem roundAddsToStroke : Obligations.RoundAddsToStroke := by
  intro now due press temps k s hr hk hdue
  have hlane (lane : Lane) :
      (k.addRound (convertPress s.acq.calibration press) (s.acq.roundTemp s.web.lanes temps)).lanes.get lane =
        (k.lanes.get lane).addRound (convertPress s.acq.calibration press) (s.acq.roundTemp s.web.lanes temps lane) :=
    Quad.get_ofFn _ lane
  refine ⟨k.addRound (convertPress s.acq.calibration press) (s.acq.roundTemp s.web.lanes temps), ?_, rfl, fun lane => ?_⟩
  · rw [exec_round hr hk hdue, ← Acquisition.roundCodes_eq, ← capOrContinue_eq (k := k) rfl]
    rfl
  · simp only [hlane]
    refine ⟨fun hu => StrokeLane.addRound_of_unused hu _ _,
      fun slot lim hu => ⟨fun hf => StrokeLane.addRound_of_fault hu hf, fun p t hp ht => ?_⟩⟩
    rw [hp, show s.acq.roundTemp s.web.lanes temps lane = some t from ht, StrokeLane.addRound_of_good hu, max_peak,
      excess_eq]
    rfl

/-! ## Reads (R77, R103, R182) -/

theorem takeReadPlatens_waking {s : State} (h : s.mode.mode = .waking) :
    takeReadPlatens s = (s, Reply.refuse .busy) := if_pos h

theorem takeReadStrokeReport_waking {s : State} (h : s.mode.mode = .waking) :
    takeReadStrokeReport s = (s, Reply.refuse .busy) := if_pos h

/-- R77: what the Acquisition Unit is doing. -/
theorem State.activity_eq (s : State) :
    s.activity = if s.stroke.phase ≠ .idle then 2 else if s.mode.mode.active then 1 else 0 := by
  unfold State.activity
  cases s.stroke.phase <;> simp [StrokePhase.stroke?]

theorem StrokePhase.boolByte_stroke? (phase : StrokePhase) :
    boolByte phase.stroke?.isSome = if phase = .idle then 0 else 1 := by
  cases phase <;> simp [StrokePhase.stroke?, boolByte]

/-- A mark that a byte carries in bit 0, with another in bit 1. -/
theorem boolByte_or (a b : Bool) :
    boolByte a ||| boolByte b <<< 1 = if a then (if b then 3 else 1) else if b then 2 else 0 := by
  cases a <;> cases b <;> rfl

/-- R77, R182: a lane's part of Read Platens. -/
theorem LaneSamples.bytes_eq (l : LaneSamples) :
    l.bytes =
      if 8 ≤ l.buffer.length then
        [l.ready.code, byteOf l.buffer.length, if l.lastRaw.isSome then 3 else 1] ++
          le16 (BitVec.ofNat 16 (l.buffer.sum / 8)) ++ [if l.faulted then 1 else 0] ++
          le16 ((l.lastRaw.map fun c => c.setWidth 16).getD 0)
      else
        [l.ready.code, byteOf l.buffer.length, if l.lastRaw.isSome then 2 else 0, 0, 0, if l.faulted then 1 else 0] ++
          le16 ((l.lastRaw.map fun c => c.setWidth 16).getD 0) := by
  have hraw : rawBytes (l.lastRaw.getD 0) = le16 ((l.lastRaw.map fun c => c.setWidth 16).getD 0) := by
    cases l.lastRaw <;> rfl
  rw [LaneSamples.bytes, hraw, boolByte_or, platenMean]
  by_cases h : 8 ≤ l.buffer.length
  · rw [if_neg (Nat.not_lt.mpr h), if_pos h]
    rfl
  · rw [if_pos (Nat.not_le.mp h), if_neg h]
    rfl

/-- R77, R182: the press part of Read Platens with no PRESS code yet, with a fault sample, and with a good one. -/
theorem Acquisition.pressBytes_of_none {a : Acquisition} (h : a.pressRaw = none) : a.pressBytes = [0, 0, 0, 0, 0] := by
  simp only [Acquisition.pressBytes, h, Option.bind_none, boolByte_or]
  rfl

theorem Acquisition.pressBytes_of_fault {a : Acquisition} {c : RawCode} (h : a.pressRaw = some c)
    (hc : 4087 ≤ c.toNat) : a.pressBytes = 1 :: (le16 (c.setWidth 16) ++ [0, 0]) := by
  simp only [Acquisition.pressBytes, h, Option.bind_some, convertPress_of_fault hc, boolByte_or]
  rfl

theorem Acquisition.pressBytes_of_good {a : Acquisition} {c : RawCode} (h : a.pressRaw = some c)
    (hc : c.toNat < 4087) :
    a.pressBytes =
      3 :: (le16 (c.setWidth 16) ++ le16 (BitVec.ofNat 16 (c.toNat * a.calibration.pspan / 4096))) := by
  simp only [Acquisition.pressBytes, h, Option.bind_some, convertPress_of_good hc, boolByte_or]
  rfl

theorem takeReadPlatens_ok {s : State} (h : s.mode.mode ≠ .waking) :
    takeReadPlatens s =
      (s, Reply.ok ([s.activity, byteOf s.web.lanes] ++
        ((lanesBelow s.web.lanes).flatMap fun lane => (s.acq.lanes.get lane).bytes) ++ s.acq.pressBytes ++
        s.acq.referenceBytes)) := by
  simp only [takeReadPlatens, h, if_false, Quad.take_eq, List.flatMap_map]

theorem takeReadStrokeReport_ok {s : State} (h : s.mode.mode ≠ .waking) :
    takeReadStrokeReport s =
      (s, Reply.ok ([boolByte s.stroke.phase.stroke?.isSome] ++ le16 s.stroke.number ++
        (s.stroke.report.map fun r => 1 :: r.bytes).getD [0])) := by
  simp only [takeReadStrokeReport, h, if_false]
  cases s.stroke.report <;> rfl

/-- Settles O23: part by part the layouts of R182. -/
theorem measurementReads : Obligations.MeasurementReads := by
  refine ⟨fun now port s hp => ?_, fun now port s hp => ?_⟩
  · split
    · rename_i hm
      exact exec_request hp now (r := .readPlatens) (takeReadPlatens_waking hm)
    · rename_i hm
      refine (exec_request hp now (r := .readPlatens) (takeReadPlatens_ok hm)).trans ?_
      simp only [State.activity_eq, LaneSamples.bytes_eq]
      congr 3
      · congr 1
        cases hc : s.acq.pressRaw with
        | none => exact Acquisition.pressBytes_of_none hc
        | some c =>
          simp only []
          split
          · rename_i hf
            exact Acquisition.pressBytes_of_fault hc hf
          · rename_i hf
            exact Acquisition.pressBytes_of_good hc (Nat.not_le.mp hf)
      · unfold Acquisition.referenceBytes
        rcases s.acq.reference with _ | ⟨code, ok, source⟩
        · rfl
        · cases source <;> rfl
  · split
    · rename_i hm
      exact exec_request hp now (r := .readStrokeReport) (takeReadStrokeReport_waking hm)
    · rename_i hm
      refine (exec_request hp now (r := .readStrokeReport) (takeReadStrokeReport_ok hm)).trans ?_
      rw [StrokePhase.boolByte_stroke?]
      congr 3
      rcases s.stroke.report with _ | ⟨number, kind, refOk, long, lanes⟩
      · rfl
      · cases kind <;> rfl

end Sys2Proof.Machine
end

section
/-! # Standby and the lanes' recipes

Enter Standby, Leave Standby and Set Lane Recipe where they act. -/

namespace Sys2Proof.Machine
open Sys2Proof

/-! ## Lanes judged anew -/

/-- R74: where the lanes come to their evaluation with the ready states of `s`, one moves or is added exactly when a state
differs from `s` afterwards or a lane is new. -/
theorem State.evaluateLanes_moves_iff {s u : State} (before : Nat)
    (h : ∀ lane : Lane, lane.val < u.web.lanes → (u.acq.lanes.get lane).ready = (s.acq.lanes.get lane).ready) :
    (∃ lane : Lane, lane.val < u.web.lanes ∧ u.laneMoves before lane) ↔
      s.readyMoved (u.evaluateLanes before) ∨ ∃ lane : Lane, lane.val < u.web.lanes ∧ before ≤ lane.val := by
  have hmoved : s.readyMoved (u.evaluateLanes before) ↔
      ∃ lane : Lane, lane.val < u.web.lanes ∧ u.readyNow lane ≠ (u.acq.lanes.get lane).ready := by
    unfold State.readyMoved
    rw [(u.evaluateLanes_leaves before).web]
    refine exists_congr fun lane => and_congr_right fun hl => ?_
    rw [State.evaluateLanes_lanes, if_pos hl, h lane hl]
  rw [hmoved, ← exists_or]
  refine exists_congr fun lane => ?_
  rw [State.laneMoves, and_or_left, or_comm]

/-- R74: where no lane is added, READY_CHANGE goes on the SEAL report port when a ready state moves. -/
theorem State.evaluateLanes_raises_moved {s u : State}
    (h : ∀ lane : Lane, lane.val < u.web.lanes → (u.acq.lanes.get lane).ready = (s.acq.lanes.get lane).ready) :
    u.raises (u.evaluateLanes u.web.lanes) fun p f =>
      s.readyMoved (u.evaluateLanes u.web.lanes) ∧ u.verdict.stations.heatSeal.port = some p ∧ f = .readyChange := by
  have hnew : ¬∃ lane : Lane, lane.val < u.web.lanes ∧ u.web.lanes ≤ lane.val := by
    rintro ⟨lane, hl, hge⟩
    omega
  refine (u.evaluateLanes_raises u.web.lanes).congr fun p f => ?_
  rw [State.evaluateLanes_moves_iff _ h]
  simp only [hnew, or_false]

/-- An evaluation reads what it leaves as it is. -/
theorem State.evaluateLanes_assignedRecipe (s : State) (before : Nat) (lane : Lane) :
    (s.evaluateLanes before).assignedRecipe lane = s.assignedRecipe lane := by
  obtain ⟨lanes, events, h⟩ := s.evaluateLanes_eq before
  rw [h]
  rfl

/-- R73: a lane evaluated is judged by its samples and its assigned recipe. -/
theorem State.evaluateLanes_readyJudged (s : State) (before : Nat) {lane : Lane} (hl : lane.val < s.web.lanes) :
    (s.evaluateLanes before).readyJudged lane := by
  refine State.readyJudged_of_eq ?_
  rw [State.readyNow, State.evaluateLanes_assignedRecipe, State.evaluateLanes_lanes, if_pos hl]
  rfl

/-- R72: with an empty buffer and no fault mark a lane is UNKNOWN, or NO_RECIPE. -/
theorem readyUnder_of_empty {l : LaneSamples} (hb : l.buffer = []) (hf : l.faulted = false) (recipe : Option Recipe) :
    readyUnder recipe l = if recipe.isSome then .unknown else .noRecipe := by
  cases recipe with
  | none => rfl
  | some r => simp [readyUnder, hf, hb, platenMean]

/-! ## Enter Standby and Leave Standby (R71, R99, R125, R126, R128) -/

section
variable (s : State) (now : Time)

theorem State.standingBy_web_lanes : (s.standingBy now).web.lanes = s.web.lanes := by
  rw [State.standingBy, State.abortStroke_frame]
  rfl

theorem State.standingBy_verdict : (s.standingBy now).verdict = s.verdict := by
  rw [State.standingBy, State.abortStroke_frame]
  rfl

/-- R71: every buffer emptied and every fault mark cleared. -/
theorem State.standingBy_lanes (lane : Lane) :
    (s.standingBy now).acq.lanes.get lane = { s.acq.lanes.get lane with buffer := [], faulted := false } := by
  rw [State.standingBy, State.abortStroke_frame]
  exact Quad.get_map ..

theorem State.standingBy_readyNow (lane : Lane) :
    (s.standingBy now).readyNow lane = if (s.assignedRecipe lane).isSome then .unknown else .noRecipe := by
  have hrecipe : (s.standingBy now).assignedRecipe lane = s.assignedRecipe lane := by
    rw [State.standingBy, State.abortStroke_frame]
    rfl
  rw [State.readyNow, hrecipe, State.standingBy_lanes, readyUnder_of_empty rfl rfl, Option.isSome_map]

theorem State.enterStandby_lanes {lane : Lane} (hl : lane.val < s.web.lanes) :
    (s.enterStandby now).acq.lanes.get lane =
      { buffer := []
        faulted := false
        ready := if (s.assignedRecipe lane).isSome then .unknown else .noRecipe
        lastRaw := (s.acq.lanes.get lane).lastRaw } := by
  rw [State.enterStandby_eq, State.evaluateLanes_lanes, State.standingBy_web_lanes, if_pos hl, State.standingBy_lanes,
    State.standingBy_readyNow]

theorem State.enterStandby_stroke :
    (s.enterStandby now).stroke = ((s.changeMode .standby).abortStroke now).stroke := by
  rw [State.enterStandby_frame]

/-- R98: the change into STANDBY marks the targets of the stroke in flight, and no other record. -/
theorem State.enterStandby_recordAt {s : State} (hs : s.serialInv) (lane : Lane) (slot : Nat) :
    (s.enterStandby now).recordAt lane slot = (s.recordAt lane slot).map (Record.onProduct s.abortMark) := by
  have hweb : (s.enterStandby now).web = ((s.changeMode .standby).abortStroke now).web := by
    rw [State.enterStandby_eq]
    exact ((s.standingBy now).evaluateLanes_leaves _).web
  have habort : ((s.changeMode .standby).abortStroke now).web = _ := State.abortStroke_web now fun _ => hs
  rw [State.recordAt, hweb, habort, changeAll_get, List.getElem?_map]
  rfl

/-- R101: an aborted stroke's report. -/
theorem Stroke.report_abort (k : Stroke) :
    k.report .aborted k.abortVerdict =
      { number := k.number
        endKind := .aborted
        refOk := k.refOk
        long := k.long
        lanes := (lanesBelow k.laneCount).map fun n =>
          { serial := (k.lanes.get n).serial
            recipe := (k.lanes.get n).used.map (·.1)
            rounds := if (k.lanes.get n).used.isSome then k.rounds else 0
            dwell := (k.lanes.get n).dwell
            dose := (k.lanes.get n).dose
            peak := (k.lanes.get n).peak
            verdict := if (k.lanes.get n).used.isSome then .aborted else .none } } := by
  simp only [Stroke.report, Quad.take_eq, List.map_map]
  congr 2
  funext n
  simp only [Function.comp_apply, Stroke.laneReport]
  congr 1
  unfold Stroke.abortVerdict
  cases (k.lanes.get n).used <;> rfl

theorem State.enterStandby_raises :
    s.raises (s.enterStandby now) fun p f => f = .mode ∨
      (f = .readyChange ∧ s.verdict.stations.heatSeal.port = some p ∧ s.readyMoved (s.enterStandby now)) ∨
      (f = .stroke ∧ s.verdict.stations.heatSeal.port = some p ∧ s.stroke.phase ≠ .idle) := by
  have hmode : s.raises (s.changeMode .standby) fun _ f => f = .mode :=
    (State.raiseAll_raises (s.setMode _) .mode).of_events rfl rfl
  have habort := (s.changeMode .standby).abortStroke_raises now
  have hready := State.evaluateLanes_raises_moved (s := s) (u := s.standingBy now) fun lane _ => by
    rw [State.standingBy_lanes]
  rw [State.standingBy_web_lanes, ← State.enterStandby_eq, State.standingBy_verdict] at hready
  refine ((hmode.trans habort).trans (hready.of_events rfl rfl)).congr fun p f => ?_
  show (_ ∨ s.stroke.phase ≠ .idle ∧ s.verdict.stations.heatSeal.port = some p ∧ _) ∨ _ ↔ _
  tauto

theorem takeEnterStandby_ok {s : State} (ha : s.mode.mode.active = true) (he : s.store.engine = none) :
    takeEnterStandby now s = (s.enterStandby now, Reply.ok [1]) := by
  have hreply : withMode (s.enterStandby now) = (s.enterStandby now, Reply.ok [1]) := by
    have hmode : (s.enterStandby now).mode.mode = .standby := by rw [State.enterStandby_frame]
    rw [withMode, hmode]
    rfl
  rw [← hreply]
  unfold takeEnterStandby
  cases hm : s.mode.mode with
  | standby | waking =>
    rw [hm] at ha
    cases ha
  | setup | run | drain => simp [he]

theorem takeLeaveStandby_ok {s : State} (hm : s.mode.mode = .standby) (he : s.store.engine = none) :
    takeLeaveStandby now s = (s.leaveStandby now, Reply.ok [2]) := by
  simp only [takeLeaveStandby, hm, he]
  rfl

end

/-- Settles O33: the change into STANDBY part by part, and the WAKING that Leave Standby begins. -/
theorem standbyRequests : Obligations.StandbyRequests := by
  refine ⟨fun now port s hp _ hs hm he => ?_, fun now port s hp hm he => ?_⟩
  · have ha : s.mode.mode.active = true := by
      obtain hm | hm | hm := hm <;> rw [hm] <;> rfl
    refine ⟨s.enterStandby now, exec_request hp now (r := .enterStandby) (takeEnterStandby_ok now ha he),
      fun lane hl => s.enterStandby_lanes now hl, fun hi => ?_, fun k hk => ?_, fun lane slot => ?_,
      s.enterStandby_raises now, ?_⟩
    · rw [State.enterStandby_stroke, State.abortStroke_of_idle (s := s.changeMode .standby) hi]
      rfl
    · rw [State.enterStandby_stroke, State.abortStroke_of_stroke (s := s.changeMode .standby) hk, State.endStroke_eq,
        ← Stroke.report_abort]
      rfl
    · rw [State.enterStandby_recordAt now hs]
      congr 2
      funext p
      unfold State.abortMark
      cases s.stroke.phase.stroke? <;> rfl
    · rw [State.enterStandby_stroke, ← State.enterStandby_frame]
  · exact exec_request hp now (r := .leaveStandby) (takeLeaveStandby_ok now hm he)

/-! ## Set Lane Recipe (R73, R74, R146, R181) -/

section
variable {s : State} {lanes : Nat} {lane presence slot : Byte} {n : Lane} {recipe : Option RecipeSlot}

/-- R146, R181: a lane of no number below N, a presence byte but 0 or 1, or a slot out of range is a BAD_VALUE. -/
theorem assignmentTarget_eq_none
    (h : lanes ≤ lane.toNat ∨ 2 ≤ presence.toNat ∨ (presence = 1 ∧ 16 ≤ slot.toNat)) :
    assignmentTarget lanes lane presence slot = none := by
  unfold assignmentTarget
  cases hl : laneOf lanes lane with
  | none => rfl
  | some n =>
    obtain ⟨heq, hlt⟩ := laneOf_sound hl
    obtain h | h | ⟨rfl, h⟩ := h
    · omega
    · have h0 : presence ≠ 0 := by
        rintro rfl
        exact absurd h (by decide)
      have h1 : presence ≠ 1 := by
        rintro rfl
        exact absurd h (by decide)
      simp only [h0, h1, if_false]
    · simp only [slotOf_eq_none h]
      rfl

theorem assignmentTarget_eq_some (h : lane.toNat = n.val) (hn : n.val < lanes)
    (hp : (presence = 0 ∧ recipe = none) ∨ (presence = 1 ∧ recipe.map (·.val) = some slot.toNat)) :
    assignmentTarget lanes lane presence slot = some (n, recipe) := by
  simp only [assignmentTarget, laneOf_eq_some h hn]
  obtain ⟨rfl, rfl⟩ | ⟨rfl, hr⟩ := hp
  · rfl
  · obtain ⟨r, rfl, hslot⟩ := Option.map_eq_some_iff.mp hr
    simp only [slotOf_eq_some hslot.symm]
    rfl

theorem takeSetLaneRecipe_standby (hm : s.mode.mode = .standby) :
    takeSetLaneRecipe lane presence slot s = (s, Reply.refuse .standby) := by
  simp only [takeSetLaneRecipe, hm]

theorem takeSetLaneRecipe_waking (hm : s.mode.mode = .waking) :
    takeSetLaneRecipe lane presence slot s = (s, Reply.refuse .busy) := by
  simp only [takeSetLaneRecipe, hm]

/-- R146: in SETUP, RUN and DRAIN the first check, then the others, then the assignment. -/
theorem takeSetLaneRecipe_active (ha : s.mode.mode.active = true) :
    takeSetLaneRecipe lane presence slot s =
      ((assignmentTarget s.web.lanes lane presence slot).map fun x =>
        ((s.assignRefusal x.1 x.2).map fun st => (s, Reply.refuse st)).getD (s.assign x.1 x.2, Reply.ok [])).getD
        (s, Reply.refuse .badValue) := by
  unfold takeSetLaneRecipe
  cases hm : s.mode.mode with
  | standby | waking =>
    rw [hm] at ha
    cases ha
  | setup | run | drain =>
    rcases assignmentTarget s.web.lanes lane presence slot with _ | ⟨n, recipe⟩
    · rfl
    · cases hr : s.assignRefusal n recipe <;> simp [hr]

section
variable (ha : s.mode.mode.active = true)
include ha

theorem takeSetLaneRecipe_badValue (ht : assignmentTarget s.web.lanes lane presence slot = none) :
    takeSetLaneRecipe lane presence slot s = (s, Reply.refuse .badValue) := by
  rw [takeSetLaneRecipe_active ha, ht]
  rfl

theorem takeSetLaneRecipe_refused (ht : assignmentTarget s.web.lanes lane presence slot = some (n, recipe))
    {st : Status} (hr : s.assignRefusal n recipe = some st) :
    takeSetLaneRecipe lane presence slot s = (s, Reply.refuse st) := by
  rw [takeSetLaneRecipe_active ha, ht, Option.map_some, hr]
  rfl

theorem takeSetLaneRecipe_ok (ht : assignmentTarget s.web.lanes lane presence slot = some (n, recipe))
    (hr : s.assignRefusal n recipe = none) :
    takeSetLaneRecipe lane presence slot s = (s.assign n recipe, Reply.ok []) := by
  rw [takeSetLaneRecipe_active ha, ht, Option.map_some, hr]
  rfl

end

/-- R146: a masked lane keeps an assignment in RUN and DRAIN. -/
theorem State.assignRefusal_masked (hp : s.mode.mode.producing = true) (hm : s.mode.laneMask.get n = true) :
    s.assignRefusal n none = some .badValue := if_pos (by simp [hp, hm])

theorem State.assignRefusal_unmasked (h : s.mode.mode.producing = false ∨ s.mode.laneMask.get n = false) :
    s.assignRefusal n none = none := if_neg (by simpa [or_iff_not_imp_left] using h)

theorem State.assignRefusal_writing {r : RecipeSlot} (h : s.store.writingRecipe r = true) :
    s.assignRefusal n (some r) = some .busy := if_pos h

theorem State.assignRefusal_invalid {r : RecipeSlot} (h : s.store.writingRecipe r = false)
    (hv : (s.store.recipes.get r).state ≠ .valid) : s.assignRefusal n (some r) = some .recipeInvalid := by
  simp [State.assignRefusal, h, RecipeStore.recipeValid, RecipeStore.recipeState, hv]

theorem State.assignRefusal_valid {r : RecipeSlot} (h : s.store.writingRecipe r = false)
    (hv : (s.store.recipes.get r).state = .valid) : s.assignRefusal n (some r) = none := by
  simp [State.assignRefusal, h, RecipeStore.recipeValid, RecipeStore.recipeState, hv]

end

section
variable (s : State) (n : Lane) (recipe : Option RecipeSlot)

/-- R145, R146: the part with a lane's assignment replaced, before the lane is judged anew. -/
def State.assigned : State := s.setMode { s.mode with assignments := s.mode.assignments.set n recipe }

theorem State.assign_lanes (lane : Lane) :
    (s.assign n recipe).acq.lanes.get lane =
      if n = lane then { s.acq.lanes.get lane with ready := (s.assigned n recipe).readyNow n }
      else s.acq.lanes.get lane :=
  State.evaluateLane_lanes (s.assigned n recipe) false n lane

theorem State.assign_frame :
    s.assign n recipe =
      { s with
        mode := { s.mode with assignments := s.mode.assignments.set n recipe }
        acq :=
          { s.acq with
            lanes := s.acq.lanes.set n { s.acq.lanes.get n with ready := (s.assigned n recipe).readyNow n } }
        events := (s.assign n recipe).events } :=
  State.evaluateLane_eq (s.assigned n recipe) false n

theorem State.assign_readyJudged : (s.assign n recipe).readyJudged n := by
  refine State.readyJudged_of_eq ?_
  rw [State.readyNow, State.assign_lanes, if_pos rfl, State.assign_frame]
  rfl

/-- R74: READY_CHANGE when the lane's state moves. -/
theorem State.assign_raises {n : Lane} (hn : n.val < s.web.lanes) :
    s.raises (s.assign n recipe) fun p f =>
      f = .readyChange ∧ s.verdict.stations.heatSeal.port = some p ∧ s.readyMoved (s.assign n recipe) := by
  have hmoved : s.readyMoved (s.assign n recipe) ↔ (s.assigned n recipe).readyNow n ≠ (s.acq.lanes.get n).ready := by
    constructor
    · rintro ⟨lane, -, hmoved⟩
      rw [State.assign_lanes] at hmoved
      split at hmoved
      · rename_i h
        exact h ▸ hmoved
      · exact absurd rfl hmoved
    · intro hmoved
      refine ⟨n, ?_, ?_⟩
      · rw [State.assign_frame]
        exact hn
      · rwa [State.assign_lanes, if_pos rfl]
  refine (((s.assigned n recipe).evaluateLane_raises false n).of_events rfl rfl).congr fun p f => ?_
  rw [hmoved]
  show (false = true ∨ _ ≠ (s.acq.lanes.get n).ready) ∧ s.verdict.stations.heatSeal.port = some p ∧ _ ↔ _
  simp only [Bool.false_eq_true, false_or]
  tauto

end

/-- Settles O38: the checks in their order, and the one lane judged anew. -/
theorem setLaneRecipeOutcome : Obligations.SetLaneRecipeOutcome := by
  intro now port lane presence slot s hp _
  have hexec {t st data} := exec_request (t := t) (st := st) (data := data) hp now
    (r := .setLaneRecipe lane presence slot)
  refine ⟨fun hm => hexec (takeSetLaneRecipe_standby hm), fun hm => hexec (takeSetLaneRecipe_waking hm), fun ha =>
    ⟨fun h => hexec (takeSetLaneRecipe_badValue ha (assignmentTarget_eq_none h)), fun n recipe hlane hn hpres => ?_⟩⟩
  have ht := assignmentTarget_eq_some hlane hn hpres
  refine ⟨?_, ?_, ?_, fun hnone hsome => ?_⟩
  · rintro rfl hprod hmask
    exact hexec (takeSetLaneRecipe_refused ha ht (State.assignRefusal_masked hprod hmask))
  · rintro r rfl hw
    exact hexec (takeSetLaneRecipe_refused ha ht (State.assignRefusal_writing hw))
  · rintro r rfl hw hv
    exact hexec (takeSetLaneRecipe_refused ha ht (State.assignRefusal_invalid hw hv))
  · have hr : s.assignRefusal n recipe = none := by
      cases recipe with
      | none => exact State.assignRefusal_unmasked (hnone rfl)
      | some r =>
        obtain ⟨hw, hv⟩ := hsome r rfl
        exact State.assignRefusal_valid hw hv
    exact ⟨s.assign n recipe, _, hexec (takeSetLaneRecipe_ok ha ht hr), s.assign_readyJudged n recipe,
      s.assign_raises recipe hn, s.assign_frame n recipe⟩

end Sys2Proof.Machine
end

section
/-! # A configuration found VALID, and a configuration that takes effect

In both the settings come first and the lanes are evaluated under them: `State.verified` and `State.settled` are the part
before that evaluation. -/

namespace Sys2Proof.Machine
open Sys2Proof

/-! ## The self-check that finds a VALID configuration (R66, R135, R136, R138, R160) -/

/-- R136, R160: a configuration block that verifies VALID makes the configuration state VALID. -/
theorem Block.verified_valid {b : Block ConfigWire} (h : b.verifiesTo configFault .valid) :
    b.verified (fun c => (configFault c).isNone) = .valid := by
  obtain ⟨hopen, hcheck, c, hc, hf⟩ := h
  simp [Block.verified, hopen, hcheck, hc, hf]

section
variable (s : State) (now : Time) (w : Wake) (ref : RawCode)

/-- R136: the part with its blocks verified and the mode SETUP, before its lanes are evaluated. -/
def State.verified : State :=
  let s := (s.setStore s.store.verifyAll).judgeReference ref .wake
  s.setMode { s.mode with configState := .valid, mode := .setup, wake := none }

/-- R136: the part once its lanes are evaluated and the self-check has ended. -/
def State.woken : State :=
  (((s.verified ref).evaluateLanes s.web.lanes).startIdle now).raiseAll (wakeFlag w.origin)

theorem State.completeSelfCheck_valid {s : State} (h : s.store.config.verifiesTo configFault .valid) :
    s.completeSelfCheck now w ref = s.woken now w ref := by
  have hstate : configStateOf (s.setStore s.store.verifyAll).store.config.state = .valid :=
    congrArg configStateOf (Block.verified_valid h)
  simp only [State.completeSelfCheck, hstate, if_true]
  rfl

/-- R136: the self-check changes blocks, lanes, the reference, the idle pass timer, the mode and events, and nothing
else. -/
theorem State.woken_frame :
    s.woken now w ref =
      { s with
        store := s.store.verifyAll
        acq :=
          { s.acq with
            lanes := (s.woken now w ref).acq.lanes
            reference := some { code := ref, ok := referenceOk s.acq.calibration ref, source := .wake }
            idleDue := some (now + ms 50) }
        mode := { s.mode with mode := .setup, configState := .valid, wake := none }
        events := (s.woken now w ref).events } := by
  obtain ⟨lanes, events, h⟩ := (s.verified ref).evaluateLanes_eq s.web.lanes
  rw [State.woken, h, ← refOk_eq]
  rfl

/-- R73: the lanes below N are judged anew, and the others left. -/
theorem State.woken_lanes (lane : Lane) :
    (s.woken now w ref).acq.lanes.get lane =
      if lane.val < s.web.lanes then { s.acq.lanes.get lane with ready := (s.verified ref).readyNow lane }
      else s.acq.lanes.get lane :=
  (s.verified ref).evaluateLanes_lanes s.web.lanes lane

theorem State.woken_readyJudged {lane : Lane} (hl : lane.val < s.web.lanes) : (s.woken now w ref).readyJudged lane :=
  (s.verified ref).evaluateLanes_readyJudged s.web.lanes hl

theorem State.woken_raises :
    s.raises (s.woken now w ref) fun p f =>
      (s.readyMoved (s.woken now w ref) ∧ s.verdict.stations.heatSeal.port = some p ∧ f = .readyChange) ∨
        f = wakeFlag w.origin := by
  have hready := State.evaluateLanes_raises_moved (s := s) (u := s.verified ref) fun _ _ => rfl
  exact (hready.of_events rfl rfl).trans ((State.raiseAll_raises (State.startIdle _ now) _).of_events rfl rfl)

end

/-- Settles O41: the blocks verified, the reference judged and every lane evaluated on its own samples. -/
theorem selfCheckFindsValid : Obligations.SelfCheckFindsValid := by
  intro now ref w s hr hw hd hv
  have hexec := exec_selfCheckExpiry hr hw hd ref
  rw [State.completeSelfCheck_valid now w ref hv] at hexec
  have hframe := s.woken_frame now w ref
  have hstore : (s.woken now w ref).store = s.store.verifyAll := by rw [hframe]
  have hlanes (lane : Lane) := s.woken_lanes now w ref lane
  refine ⟨_, hexec, ?_, fun slot => ?_, fun lane hl => ⟨s.woken_readyJudged now w ref hl, ?_⟩, fun lane hl => ?_,
    (s.woken_raises now w ref).congr fun p f => ?_, ?_⟩
  · rw [hstore]
    exact congrArg (fun st => { s.store.config with state := st }) (Block.verified_valid hv)
  · have hspec := (s.store.recipes.get slot).verify_spec recipeFault
    have hrecipe : s.store.verifyAll.recipes.get slot = _ := Bank.get_map ..
    rw [← hrecipe] at hspec
    rw [hstore]
    exact hspec.symm
  · rw [(hlanes lane).trans (if_pos hl)]
  · exact (hlanes lane).trans (if_neg (Nat.not_lt.mpr hl))
  · rw [wakeFlag_eq_iff]
    tauto
  · rw [hstore]
    exact hframe

/-! ## A configuration takes effect (R75, R150, R156, R165, R168) -/

theorem exec_storeWriteCompletion {s : State} {w : StoreWrite} {now : Time} (hr : s.resetHeld = false)
    (he : s.store.engine = some w) (hn : w.accepted + ms w.target.nominal ≤ now) (hd : now ≤ w.due) :
    exec (.storeWriteCompletion now w.accepted) s = .next (s.completeWrite w) := by
  show execStoreWriteCompletion now w.accepted s = _
  simp only [execStoreWriteCompletion, State.unlessHeld, hr, State.storeCompletion, he, hn, hd, and_self, if_true,
    Bool.false_eq_true, if_false]

section
variable (s : State) (w : StoreWrite) (contents : ConfigWire)

/-- R165, R168: the part with the configuration written and its settings in force, before its lanes are evaluated. -/
def State.settled : State :=
  let c := configurationOf contents
  let s := (s.setStore (s.store.complete (.configuration contents))).storeDone w.port .ok
  let s := (s.loadSettings c).loseTrackAt c.lanes c.length
  let s := s.setAcq (s.acq.emptyBuffers.holdLanes c.lanes)
  s.setMode { s.mode with configState := .valid }

theorem State.completeWrite_configuration {w : StoreWrite} {contents : ConfigWire}
    (ht : w.target = .configuration contents) :
    s.completeWrite w = (s.settled w contents).evaluateLanes s.web.lanes := by
  simp only [State.completeWrite, ht]
  rfl

theorem State.settled_lanes (lane : Lane) :
    (s.settled w contents).acq.lanes.get lane =
      if lane.val < (configurationOf contents).lanes then
        { s.acq.lanes.get lane with buffer := [], faulted := false }
      else LaneSamples.fresh .noRecipe := by
  show ((s.acq.lanes.map _).restrict _ _).get lane = _
  rw [Quad.get_restrict, Quad.get_map]

/-- R188: STORE_DONE with its result on the requesting port. -/
theorem State.storeDone_events (p : Port) (r : StoreResult) (port : Port) :
    ((s.storeDone p r).events.get port).enable = (s.events.get port).enable ∧
      ((s.storeDone p r).events.get port).storeResult = (if port = p then some r else (s.events.get port).storeResult) ∧
      ∀ f, (s.storeDone p r).flagSet port f ↔ s.flagSet port f ∨ (f = .storeDone ∧ port = p) := by
  have hflag (f : EventFlag) : (s.raiseOn p .storeDone).flagSet port f ↔ _ := s.raiseAt_flagSet (some p) .storeDone port f
  simp only [State.flagSet, State.raiseOn, State.setEvents_events, Quad.get_modify] at hflag
  by_cases hp : p = port
  · subst hp
    simp only [State.storeDone, State.flagSet, State.setEvents_events, Quad.get_modify_self, if_true, and_true] at hflag ⊢
    exact ⟨rfl, trivial, fun f => (hflag f).trans (by simp)⟩
  · simp [State.storeDone, State.flagSet, Quad.get_modify, hp, Ne.symm hp]

/-- R168: STORE_DONE on the requesting port, then TRACK_LOST on every port. -/
theorem State.settled_events (port : Port) :
    ((s.settled w contents).events.get port).enable = (s.events.get port).enable ∧
      ((s.settled w contents).events.get port).storeResult =
        (if port = w.port then some .ok else (s.events.get port).storeResult) ∧
      ∀ f, (s.settled w contents).flagSet port f ↔
        s.flagSet port f ∨ (f = .storeDone ∧ port = w.port) ∨ f = .trackLost := by
  obtain ⟨henable, hresult, hflags⟩ := s.storeDone_events w.port .ok port
  have hlost : (s.storeDone w.port .ok).raises (s.settled w contents) fun _ f => f = .trackLost :=
    (State.raiseAll_raises _ .trackLost).of_events rfl rfl
  obtain ⟨henable', hresult', hflags'⟩ := hlost port
  exact ⟨henable'.trans henable, hresult'.trans hresult, fun f => by rw [hflags', hflags, or_assoc]⟩

/-- R74, R168: READY_CHANGE on the new SEAL report port when a state moved or a lane was added. -/
theorem State.settled_raises (h4 : (configurationOf contents).lanes ≤ 4) :
    (s.settled w contents).raises ((s.settled w contents).evaluateLanes s.web.lanes) fun p f =>
      (s.readyMoved ((s.settled w contents).evaluateLanes s.web.lanes) ∨
        s.web.lanes < (configurationOf contents).lanes) ∧
        (configurationOf contents).stations.heatSeal.port = some p ∧ f = .readyChange := by
  have hready (lane : Lane) (hl : lane.val < (s.settled w contents).web.lanes) :
      ((s.settled w contents).acq.lanes.get lane).ready = (s.acq.lanes.get lane).ready := by
    rw [State.settled_lanes, if_pos (show lane.val < (configurationOf contents).lanes from hl)]
  have hnew : (∃ lane : Lane, lane.val < (configurationOf contents).lanes ∧ s.web.lanes ≤ lane.val) ↔
      s.web.lanes < (configurationOf contents).lanes := by
    constructor
    · rintro ⟨lane, hl, hge⟩
      omega
    · intro h
      exact ⟨⟨s.web.lanes, h.trans_le h4⟩, h, Nat.le_refl _⟩
  refine ((s.settled w contents).evaluateLanes_raises s.web.lanes).congr fun p f => ?_
  rw [State.evaluateLanes_moves_iff _ hready, ← hnew]
  exact Iff.rfl

end

/-- Settles O47: the settings block by block, and every lane of the new geometry evaluated with an empty buffer. -/
theorem configurationTakesEffect : Obligations.ConfigurationTakesEffect := by
  intro now w contents s hr he ht hf hn hd c
  obtain ⟨⟨-, h4, -⟩, -⟩ := configurationOf_fits hf
  have hexec := exec_storeWriteCompletion hr he (now := now) (by rw [ht]; exact hn) hd
  rw [State.completeWrite_configuration s ht] at hexec
  have hraises := s.settled_raises w contents h4
  have hlanes (lane : Lane) : ((s.settled w contents).evaluateLanes s.web.lanes).acq.lanes.get lane =
      if lane.val < c.lanes then
        { buffer := [], faulted := false, ready := (s.settled w contents).readyNow lane
          lastRaw := (s.acq.lanes.get lane).lastRaw }
      else LaneSamples.fresh .noRecipe := by
    rw [State.evaluateLanes_lanes, State.settled_lanes]
    show (if lane.val < c.lanes then _ else _) = _
    split <;> rfl
  have hjudged {lane : Lane} (hl : lane.val < c.lanes) :=
    (s.settled w contents).evaluateLanes_readyJudged s.web.lanes (lane := lane) hl
  obtain ⟨lanes, events, hframe⟩ := (s.settled w contents).evaluateLanes_eq s.web.lanes
  rw [hframe] at hexec hraises hlanes hjudged
  refine ⟨_, hexec, rfl, rfl, rfl, fun port lane hl => ?_, rfl, rfl, rfl, rfl, fun lane hl => ⟨hjudged hl, ?_⟩,
    fun lane hl => ?_, rfl, rfl, rfl, rfl, fun lane => ⟨?_, ?_⟩, fun port => ?_, rfl, rfl, rfl, rfl⟩
  · show ((c.masks.map fun q : Quad FieldMask => q.restrict c.lanes FieldMask.empty).get port).get lane = _
    rw [Quad.get_map, Quad.get_restrict, if_pos hl]
  · rw [(hlanes lane).trans (if_pos hl)]
    exact ⟨rfl, rfl, rfl⟩
  · rw [(hlanes lane).trans (if_neg (Nat.not_lt.mpr hl))]
    rfl
  · show (c.laneMask.restrict c.lanes false).get lane = _
    rw [restrict_false, Quad.get_ofFn]
  · exact Quad.get_restrict ..
  · obtain ⟨henable, hresult, hflags⟩ := s.settled_events w contents port
    obtain ⟨henable', hresult', hflags'⟩ := hraises port
    refine ⟨henable'.trans henable, hresult'.trans hresult, fun f => ?_⟩
    rw [hflags', hflags]
    tauto

end Sys2Proof.Machine
end

section
/-! # Seal strokes and the dose verdict

A stroke's start, cap, verdict and end, and its abort by an index. A stroke writes by serial, and its lanes captured
distinct serials, so its writes at a complete end are one map over the rows (`Stroke.writeTargets_eq`). -/

namespace Sys2Proof.Machine
open Sys2Proof

/-! ## The verdict (R93) -/

/-- R93: the peak of a lane, if it has one, lies above T_max. -/
theorem StrokeLane.peak_any_iff (l : StrokeLane) (lim : SealLimits) :
    (l.peak.any fun t => decide (lim.tMax < t)) = true ↔ ∃ peak, l.peak = some peak ∧ lim.tMax < peak := by
  cases l.peak <;> simp

/-- Settles O28: the branches of the judgement are the conditions of the table, in its order. -/
theorem sealVerdictOrder : Obligations.SealVerdictOrder := by
  intro k l
  refine ⟨fun hu => by rw [Stroke.completeVerdict, hu], fun slot lim hu =>
    ⟨judgeLane k l lim, by rw [Stroke.completeVerdict, hu], ?_⟩⟩
  have hsensor : (l.faulted || !k.refOk) = true ↔ l.faulted = true ∨ k.refOk = false := by simp
  have hover : (k.long || decide (lim.dMax < l.dose)) = true ↔ k.long = true ∨ lim.dMax < l.dose := by simp
  intro isSensor isHot isShort isOver isUnder
  simp only [judgeLane, hsensor, l.peak_any_iff lim, hover]
  split_ifs <;> simp [isSensor, isHot, isShort, isOver, isUnder, *]

theorem Stroke.completeVerdict_of_unused {k : Stroke} {l : StrokeLane} (h : l.used = none) :
    k.completeVerdict l = .none := by
  rw [Stroke.completeVerdict, h]

/-- R93: a complete end gives no lane ABORTED. -/
theorem Stroke.completeVerdict_ne_aborted (k : Stroke) (l : StrokeLane) : k.completeVerdict l ≠ .aborted := by
  unfold Stroke.completeVerdict
  split <;> simp

/-! ## The cap (R91) -/

theorem capOrContinue_of_cap {k : Stroke} (h : 2048 ≤ k.rounds) (next : Time) :
    capOrContinue next k = .capped { k with long := true } := if_pos h

theorem capOrContinue_of_lt {k : Stroke} (h : k.rounds < 2048) (next : Time) :
    capOrContinue next k = .sampling next k := if_neg (Nat.not_le.mpr h)

theorem exec_roundCap_sampling {s : State} {now due : Time} {k : Stroke} (hr : s.resetHeld = false)
    (hk : s.stroke.phase = .sampling due k) :
    exec (.roundCap now) s = .next (s.setStroke { s.stroke with phase := capOrContinue due k }) := by
  show execRoundCap now s = _
  simp only [execRoundCap, State.unlessHeld, hr, hk, Bool.false_eq_true, if_false]

/-- R91: nothing is sampled and nothing capped in CAPPED. -/
theorem exec_rounds_capped {s : State} {k : Stroke} (hr : s.resetHeld = false) (hk : s.stroke.phase = .capped k)
    (now : Time) (press : RawCode) (temps : Quad RawCode) :
    exec (.roundCap now) s = .next s ∧ exec (.round now press temps) s = .next s := by
  constructor
  · show execRoundCap now s = _
    simp only [execRoundCap, State.unlessHeld, hr, hk, Bool.false_eq_true, if_false]
  · show execRound now press temps s = _
    simp only [execRound, State.unlessHeld, hr, hk, Bool.false_eq_true, if_false]

/-- Settles O26: the cap by the round count, and CAPPED. -/
theorem roundCapEndsSampling : Obligations.RoundCapEndsSampling := by
  intro now press temps s hr
  refine ⟨fun due k hk hcap => ?_, fun due k hk hlt => ?_, fun k hk => exec_rounds_capped hr hk now press temps⟩
  · rw [exec_roundCap_sampling hr hk, capOrContinue_of_cap hcap]
    rfl
  · rw [exec_roundCap_sampling hr hk, capOrContinue_of_lt hlt, ← hk]
    rfl

/-! ## A rising edge (R80, R82 to R86) -/

theorem exec_sealRisingEdge {s : State} (hr : s.resetHeld = false) (hi : s.stroke.phase = .idle) (now : Time)
    (ref : RawCode) :
    exec (.sealRisingEdge now ref) s = .next (if s.mode.mode.active then s.startStroke now ref else s) := by
  show execSealRisingEdge now ref s = _
  simp only [execSealRisingEdge, State.unlessHeld, hr, hi, Bool.false_eq_true, if_false]

theorem State.sealProduct_of_disabled {s : State} (h : ¬s.verdict.stations.heatSeal.enabled = true) (lane : Lane) :
    s.sealProduct lane = none := if_neg h

theorem State.sealProduct_of_enabled {s : State} (h : s.verdict.stations.heatSeal.enabled = true) (lane : Lane) :
    s.sealProduct lane = (s.recordAt lane s.verdict.stations.heatSeal.slot).bind Record.product? := if_pos h

/-- R83, R84: a PRODUCT record at the SEAL slot gives its serial and its own recipe. -/
theorem State.captureLane_of_product {s : State} {lane : Lane} {p : Product} (h : s.sealProduct lane = some p) :
    s.captureLane lane =
      StrokeLane.captured (some p.serial) ((s.store.recipe p.recipe).map fun r => (p.recipe, r.limits)) := by
  rw [State.captureLane, h]

/-- R83, R84: with no PRODUCT record there, the lane's assigned recipe is used. -/
theorem State.captureLane_of_none {s : State} {lane : Lane} (h : s.sealProduct lane = none) :
    s.captureLane lane = StrokeLane.captured none ((s.assignedRecipe lane).map fun x => (x.1, x.2.limits)) := by
  rw [State.captureLane, h]

/-- R82 to R86: the state in which a stroke has started. -/
theorem State.startStroke_eq (s : State) (now : Time) (ref : RawCode) :
    s.startStroke now ref =
      { s with
        acq :=
          { s.acq with
            idleDue := none
            reference := some { code := ref, ok := referenceOk s.acq.calibration ref, source := .stroke } }
        stroke :=
          { s.stroke with
            number := s.stroke.number + 1
            phase := .sampling (now + ms 2)
              { number := s.stroke.number + 1
                laneCount := s.web.lanes
                lanes := Quad.ofFn fun lane =>
                  if lane.val < s.web.lanes then s.captureLane lane else StrokeLane.captured none none
                refOk := referenceOk s.acq.calibration ref
                long := false
                rounds := 0 } } } := by
  rw [← refOk_eq]
  rfl

/-- Settles O24: lane by lane what the start captures. -/
theorem strokeStart : Obligations.StrokeStart := by
  intro now ref s hr hi
  refine ⟨fun hm => ?_, fun hm => ?_⟩
  · have ha : ¬s.mode.mode.active = true := by
      obtain hm | hm := hm <;> rw [hm] <;> exact Bool.false_ne_true
    rw [exec_sealRisingEdge hr hi, if_neg ha]
  · have ha : s.mode.mode.active = true := by
      obtain hm | hm | hm := hm <;> rw [hm] <;> rfl
    rw [exec_sealRisingEdge hr hi, if_pos ha, State.startStroke_eq]
    dsimp only
    congr 6
    funext lane
    by_cases hl : lane.val < s.web.lanes
    · rw [if_pos hl, if_neg (Nat.not_le.mpr hl)]
      by_cases he : s.verdict.stations.heatSeal.enabled = true
      · rw [if_pos he]
        have hseal := State.sealProduct_of_enabled he lane
        cases hrec : s.recordAt lane s.verdict.stations.heatSeal.slot with
        | none =>
          rw [hrec] at hseal
          exact State.captureLane_of_none hseal
        | some r =>
          rw [hrec] at hseal
          cases r with
          | product p => exact State.captureLane_of_product hseal
          | void | untracked => exact State.captureLane_of_none hseal
      · rw [if_neg he]
        exact State.captureLane_of_none (State.sealProduct_of_disabled he lane)
    · rw [if_neg hl, if_pos (Nat.not_lt.mp hl)]
      rfl

/-! ## The writes of a stroke (R84, R95, R96) -/

/-- R84: the lane writes to the record with the serial, as a test. -/
def StrokeLane.seals (l : StrokeLane) (x : Serial) : Bool := l.serial == some x && l.used.isSome

theorem StrokeLane.seals_iff {l : StrokeLane} {x : Serial} : l.seals x = true ↔ l.targets x := by
  simp [StrokeLane.seals, StrokeLane.targets]

/-- R95: a verdict with its dose written into a record; NONE writes nothing. -/
def ReportVerdict.write (v : ReportVerdict) (dose : Nat) (p : Product) : Product :=
  ((v.mark dose).map fun m => { p with heatSeal := p.heatSeal.after m }).getD p

@[simp] theorem ReportVerdict.write_serial (v : ReportVerdict) (dose : Nat) (p : Product) :
    (v.write dose p).serial = p.serial := by
  unfold ReportVerdict.write
  cases v.mark dose <;> rfl

/-- R95, R96: what one lane's write makes of a record. -/
def StrokeLane.strike (l : StrokeLane) (v : ReportVerdict) (p : Product) : Product :=
  if l.seals p.serial then v.write l.dose p else p

@[simp] theorem StrokeLane.strike_serial (l : StrokeLane) (v : ReportVerdict) (p : Product) :
    (l.strike v p).serial = p.serial := by
  unfold StrokeLane.strike
  split
  · exact v.write_serial l.dose p
  · rfl

/-- A lane that captured no serial, or whose verdict is NONE, changes no record. -/
theorem StrokeLane.strike_eq_self {l : StrokeLane} {v : ReportVerdict} (h : l.serial = none ∨ v.mark l.dose = none) :
    l.strike v = fun p => p := by
  funext p
  obtain h | h := h
  · simp [StrokeLane.strike, StrokeLane.seals, h]
  · simp [StrokeLane.strike, ReportVerdict.write, h]

/-- R9, R95: one lane's write, seen from every record. -/
theorem writeTarget_eq {rows : Quad (List Record)} (h : serialsUnique rows) {l : StrokeLane} {v : ReportVerdict}
    (hv : l.used = none → v = .none) : writeTarget rows l v = changeAll (l.strike v) rows := by
  rcases hs : l.serial with _ | n
  · rw [StrokeLane.strike_eq_self (.inl hs), changeAll_self, writeTarget, hs]
  · rcases hm : v.mark l.dose with _ | m
    · rw [StrokeLane.strike_eq_self (.inr hm), changeAll_self, writeTarget, hs, hm]
    · have hu : l.used.isSome = true := by
        rw [Option.isSome_iff_ne_none]
        intro hu
        rw [hv hu] at hm
        cases hm
      have hstrike : l.strike v =
          fun p => if p.serial = n then { p with heatSeal := p.heatSeal.struck m } else p := by
        funext p
        simp [StrokeLane.strike, StrokeLane.seals, ReportVerdict.write, hs, hu, hm, SealMark.struck_eq_after,
          eq_comm (a := n)]
      rw [hstrike, ← changeSerial_eq h, writeTarget, hs, hm]

section
variable {k : Stroke} {verdict : StrokeLane → ReportVerdict}

theorem foldl_writeTarget (hv : ∀ l, l.used = none → verdict l = .none) (lanes : List StrokeLane)
    {rows : Quad (List Record)} (h : serialsUnique rows) :
    lanes.foldl (fun rows l => writeTarget rows l (verdict l)) rows =
      changeAll (fun p => lanes.foldl (fun p l => l.strike (verdict l) p) p) rows := by
  induction lanes generalizing rows with
  | nil => simp
  | cons l rest ih =>
    rw [List.foldl_cons, writeTarget_eq h (hv l), ih (h.changeAll (l.strike_serial _)), changeAll_changeAll]
    rfl

/-- Lanes that captured distinct serials write into a record at most once between them. -/
theorem foldl_strike
    (hk : ∀ n n' x, (k.lanes.get n).serial = some x → (k.lanes.get n').serial = some x → n = n')
    {lanes : List Lane} (hd : lanes.Nodup) (p : Product) :
    lanes.foldl (fun p n => (k.lanes.get n).strike (verdict (k.lanes.get n)) p) p =
      ((lanes.find? fun n => (k.lanes.get n).seals p.serial).map fun n =>
        (verdict (k.lanes.get n)).write (k.lanes.get n).dose p).getD p := by
  induction lanes generalizing p with
  | nil => rfl
  | cons n rest ih =>
    obtain ⟨hn, hd⟩ := List.nodup_cons.mp hd
    rw [List.foldl_cons, ih hd, StrokeLane.strike_serial, List.find?_cons]
    rcases ht : (k.lanes.get n).seals p.serial with _ | _
    · simp [StrokeLane.strike, ht]
    · have hrest : (rest.find? fun n => (k.lanes.get n).seals p.serial) = none := by
        rw [List.find?_eq_none]
        intro n' hn' ht'
        obtain ⟨hserial, -⟩ := StrokeLane.seals_iff.mp ht
        obtain ⟨hserial', -⟩ := StrokeLane.seals_iff.mp ht'
        exact hn (hk n n' _ hserial hserial' ▸ hn')
      simp [hrest, StrokeLane.strike, ht]

/-- R95, R96: what a stroke with the lane verdicts given makes of a record. -/
def Stroke.sealMark (k : Stroke) (verdict : StrokeLane → ReportVerdict) (p : Product) : Product :=
  (((lanesBelow k.laneCount).find? fun n => (k.lanes.get n).seals p.serial).map fun n =>
    (verdict (k.lanes.get n)).write (k.lanes.get n).dose p).getD p

/-- R84, R95, R96: the writes of a stroke, in lane order, change each target once and nothing else. -/
theorem Stroke.writeTargets_eq {rows : Quad (List Record)} (h : serialsUnique rows)
    (hk : ∀ n n' x, (k.lanes.get n).serial = some x → (k.lanes.get n').serial = some x → n = n')
    (hv : ∀ l, l.used = none → verdict l = .none) :
    k.writeTargets verdict rows = changeAll (k.sealMark verdict) rows := by
  rw [Stroke.writeTargets, foldl_writeTarget hv _ h]
  congr 1
  funext p
  rw [Quad.take_eq, List.foldl_map, foldl_strike hk (lanesBelow_nodup _)]
  rfl

end

/-! ## A falling edge (R81, R101, R102) -/

theorem exec_sealFallingEdge {s : State} (hr : s.resetHeld = false) (now : Time) :
    exec (.sealFallingEdge now) s = .next (s.completeStroke now) :=
  congrArg Host.Outcome.next (if_neg (by simp [hr]))

theorem State.completeStroke_of_idle {s : State} (h : s.stroke.phase = .idle) (now : Time) :
    s.completeStroke now = s := by
  simp only [State.completeStroke, State.stroke?_of_idle h]

theorem State.completeStroke_of_stroke {s : State} {k : Stroke} (h : s.stroke.phase.stroke? = some k) (now : Time) :
    s.completeStroke now = s.endStroke now k .complete k.completeVerdict := by
  simp only [State.completeStroke, h]

theorem StrokePhase.ne_idle_of_stroke {phase : StrokePhase} {k : Stroke} (h : phase.stroke? = some k) :
    phase ≠ .idle := by
  rintro rfl
  cases h

/-- R101: a stroke's report, lane by lane. -/
theorem Stroke.report_eq (k : Stroke) (kind : EndKind) (verdict : StrokeLane → ReportVerdict) :
    k.report kind verdict =
      { number := k.number
        endKind := kind
        refOk := k.refOk
        long := k.long
        lanes := (lanesBelow k.laneCount).map fun n => k.laneReport verdict (k.lanes.get n) } := by
  rw [Stroke.report, Quad.take_eq, List.map_map]
  rfl

/-- R95, R96: the end of a stroke writes into every target and changes no other record. -/
theorem State.endStroke_recordAt {s : State} {k : Stroke} {verdict : StrokeLane → ReportVerdict} (hs : s.serialInv)
    (hk : s.stroke.phase.stroke? = some k) (hv : ∀ l, l.used = none → verdict l = .none) (now : Time)
    (kind : EndKind) (lane : Lane) (slot : Nat) :
    (s.endStroke now k kind verdict).recordAt lane slot =
      (s.recordAt lane slot).map (Record.onProduct (k.sealMark verdict)) := by
  obtain ⟨-, -, hu, hc⟩ := hs
  have hunique : serialsUnique s.web.rows := hu
  rw [State.endStroke_eq]
  show ((k.writeTargets verdict s.web.rows).get lane)[slot]? = _
  rw [Stroke.writeTargets_eq hunique (fun n n' x => hc k n n' x hk) hv, changeAll_get, List.getElem?_map]
  rfl

/-- Settles O27: the end of the stroke in its records, its report and its flag, and nothing else. -/
theorem fallingEdgeEndsStroke : Obligations.FallingEdgeEndsStroke := by
  intro now s hr _ hs hsampling
  refine ⟨fun hi => ?_, fun k hk =>
    ⟨s.endStroke now k .complete k.completeVerdict, ?_, ?_, fun lane slot => ?_, ?_, ?_⟩⟩
  · rw [exec_sealFallingEdge hr, State.completeStroke_of_idle hi]
  · rw [exec_sealFallingEdge hr, State.completeStroke_of_stroke hk]
  · rw [State.endStroke_eq, Stroke.report_eq]
    rfl
  · rw [State.endStroke_recordAt hs hk (fun _ => Stroke.completeVerdict_of_unused) now .complete]
    congr 2
    funext p
    unfold Stroke.sealMark StrokeLane.seals
    cases (lanesBelow k.laneCount).find? fun n =>
      (k.lanes.get n).serial == some p.serial && (k.lanes.get n).used.isSome with
    | none => rfl
    | some n =>
      cases hv : k.completeVerdict (k.lanes.get n) with
      | none | judged =>
        simp only [Option.map_some, hv]
        rfl
      | aborted => exact absurd hv (k.completeVerdict_ne_aborted _)
  · exact (s.endStroke_raises now k .complete k.completeVerdict).congr fun p f => and_comm
  · have ha : s.mode.mode.active = true := by
      obtain ⟨-, hactive, -⟩ := hsampling
      exact hactive (StrokePhase.ne_idle_of_stroke hk)
    rw [State.endStroke_eq, ha]
    rfl

/-! ## The abort by an index (R98, R101, R102) -/

/-- The records after a taken index past the entry slot. Unlike `State.aborted_recordAt_succ` this needs no
`captureInv`, which bears on the entry record alone. -/
theorem State.aborted_recordAt_moved {s : State} (hg : s.geometryInv) (hs : s.serialInv) (now : Time)
    (cards : Quad Bool) {lane : Lane} {slot : Nat} (hl : lane.val < s.web.lanes) (hslot : slot + 1 < s.web.length) :
    (s.aborted now cards).recordAt lane (slot + 1) =
      (s.recordAt lane slot).map fun r =>
        (r.onProduct (Product.brought s.verdict.stations (cards.get lane) (slot + 1))).onProduct s.abortMark := by
  have hinv : ((s.shifted now).verdictIndex cards).serialInv :=
    (State.verdictIndex_keeps _ cards).serialInv (State.shifted_serialInv hg hs now)
  rw [State.recordAt, State.aborted, State.abortStroke_web now fun _ => hinv, State.verdictIndex_abortMark,
    changeAll_get, State.verdictIndex_eq]
  simp only [State.setEvents_web, State.setRows_web, State.broughtRows, Quad.get_ofFn, List.getElem?_map,
    List.getElem?_mapIdx]
  rw [← State.recordAt, State.shifted_recordAt_succ hg.1 now hl hslot, Option.map_map]
  rfl

/-- R84, R98: the test by which an abort marks a record, in the terms of the statements. -/
theorem Stroke.any_seals_iff (k : Stroke) (x : Serial) :
    ((lanesBelow k.laneCount).any fun n => (k.lanes.get n).seals x) = true ↔
      ∃ n : Lane, n.val < k.laneCount ∧ (k.lanes.get n).targets x := by
  simp only [List.any_eq_true, mem_lanesBelow, StrokeLane.seals_iff]

/-- R98: an abort marks its targets, and them alone. -/
theorem Stroke.abortMark_of_target {k : Stroke} {p : Product}
    (h : ∃ n : Lane, n.val < k.laneCount ∧ (k.lanes.get n).targets p.serial) :
    k.abortMark p = { p with heatSeal := p.heatSeal.after .aborted } := if_pos ((k.any_seals_iff p.serial).mpr h)

theorem Stroke.abortMark_of_no_target {k : Stroke} {p : Product}
    (h : ¬∃ n : Lane, n.val < k.laneCount ∧ (k.lanes.get n).targets p.serial) : k.abortMark p = p :=
  if_neg (mt (k.any_seals_iff p.serial).mp h)

/-- R98: a mark bears on the Seal field alone. -/
theorem Stroke.abortMark_keeps (k : Stroke) (p : Product) :
    (k.abortMark p).serial = p.serial ∧ (k.abortMark p).recipe = p.recipe ∧ (k.abortMark p).hold = p.hold := by
  unfold Stroke.abortMark
  split <;> exact ⟨rfl, rfl, rfl⟩

/-- R101: the evaluator after a taken index that aborts a stroke. -/
theorem State.aborted_stroke {s : State} {k : Stroke} (hk : s.stroke.phase.stroke? = some k) (now : Time)
    (cards : Quad Bool) :
    (s.aborted now cards).stroke =
      { phase := .idle, number := s.stroke.number, report := some (k.report .aborted k.abortVerdict) } := by
  have hstroke : ((s.shifted now).verdictIndex cards).stroke = s.stroke := State.verdictIndex_stroke cards _
  rw [State.aborted, State.abortStroke_of_stroke (by rw [hstroke, hk]), State.endStroke_eq]
  simp only [State.setEvents_stroke, State.setAcq_stroke, State.setStroke_stroke, hstroke]

/-- R102: STROKE on the SEAL report port, by the exact flags of `indexRaisesFlags`. -/
theorem exec_indexEdge_strokeFlag {s t : State} {now : Time} {cards : Quad Bool} (hr : s.resetHeld = false)
    (ht : s.edgeTaken now) (ha : s.mode.mode.active = true) (hg : s.geometryInv) (hi : s.stroke.phase ≠ .idle)
    (h : exec (.indexEdge now cards) s = .next t) {p : Port} (hp : s.verdict.stations.heatSeal.port = some p) :
    t.flagSet p .stroke := by
  obtain ⟨t', hexec, hraises⟩ := indexRaisesFlags now cards s hr ht ha hg
  obtain rfl : t = t' := Host.Outcome.next.inj (h.symm.trans hexec)
  obtain ⟨-, -, hflags⟩ := hraises p
  exact (hflags .stroke).mpr (.inr ⟨hi, hp⟩)

/-- Settles O8: the gate and the drain check leave the report, the timer and the records as the abort made them. -/
theorem indexAbortsStroke : Obligations.IndexAbortsStroke := by
  intro now cards k s hr ht ha hg hs hk
  have hi := StrokePhase.ne_idle_of_stroke hk
  obtain ⟨t, hexec, hgate⟩ := exec_indexEdge_active hr ht ha cards
  refine ⟨t, hexec, ?_, ?_, fun p hp => exec_indexEdge_strokeFlag hr ht ha hg hi hexec hp,
    fun lane slot p hslot hp => ?_⟩
  · rw [hgate.stroke, State.aborted_stroke hk, Stroke.report_abort]
  · rw [hgate.acq, (s.aborted_from now cards).acq, if_neg hi, ha]
    rfl
  · have hmoved := State.aborted_recordAt_moved hg hs now cards (hg.1.lane_lt hp) hslot
    rw [hp, State.abortMark_of_stroke hk] at hmoved
    rw [State.recordAt, hgate.web]
    obtain ⟨hserial, hrecipe, hhold⟩ :=
      k.abortMark_keeps (p.brought s.verdict.stations (cards.get lane) (slot + 1))
    refine ⟨_, hmoved, hserial, hrecipe, hhold, fun htarget => ?_, fun htarget => ?_⟩
    · rw [Stroke.abortMark_of_target (p := p.brought ..) htarget]
      rfl
    · rw [Stroke.abortMark_of_no_target (p := p.brought ..) htarget]
      rfl

end Sys2Proof.Machine
end

section
/-! # The Discharge Gate

The gate's decision, the end of a REJECT pulse, the discharge log that every step keeps, and its reading (chapter 5). -/

namespace Sys2Proof.Machine
open Sys2Proof

/-! ## The decision (R106 to R109)

A PRODUCT record's cause list is the list of all its possible causes, in the fixed order, with those that do not hold
left out. -/

/-- The causes of a PRODUCT record's rejection in the fixed order (R108). -/
def productCauseOrder : List Cause := [.held, .form, .load, .card, .heatSeal, .inspect, .aux]

/-- R107: the condition of a cause, for a PRODUCT record. -/
def Product.fails (m : StationMap) (req : StationSet) (p : Product) : Cause → Bool
  | .held => p.hold.isSome
  | .form => m.form.enabled && req.form && p.form != .pass
  | .load => m.load.enabled && req.load && !p.load.isPass
  | .card => m.card.enabled && req.card && p.card != .present
  | .heatSeal => m.heatSeal.enabled && req.heatSeal && !p.heatSeal.isPass
  | .inspect => m.inspect.enabled && req.inspect && p.inspect != .pass
  | .aux => m.aux.enabled && req.aux && p.aux != .pass
  | .untracked => false
  | .void => false

theorem causeIf_append_filter (f : Cause → Bool) (c : Cause) (l : List Cause) :
    causeIf (f c) c ++ l.filter f = (c :: l).filter f := by
  rw [List.filter_cons, causeIf]
  split <;> rfl

theorem productCauses_eq (m : StationMap) (req : StationSet) (p : Product) :
    productCauses m req p = productCauseOrder.filter (p.fails m req) := by
  simp only [productCauseOrder, ← causeIf_append_filter, List.filter_nil, List.append_nil]
  simp only [productCauses, Product.fails, List.append_assoc]

theorem mem_productCauses {m : StationMap} {req : StationSet} {p : Product} {c : Cause} :
    c ∈ productCauses m req p ↔ p.fails m req c = true := by
  rw [productCauses_eq, List.mem_filter, and_iff_right_iff_imp]
  cases c with
  | untracked | void => nofun
  | held | form | load | card | heatSeal | inspect | aux => exact fun _ => by decide

theorem productCauses_pairwise (m : StationMap) (req : StationSet) (p : Product) :
    (productCauses m req p).Pairwise fun a b => a.code < b.code := by
  rw [productCauses_eq]
  exact List.Pairwise.filter _ (by decide)

theorem causesOf_length_le (m : StationMap) (r : RecipeStore) (rec : Record) : (causesOf m r rec).length ≤ 7 := by
  cases rec with
  | product p =>
    rw [causesOf, productCauses_eq]
    exact List.length_filter_le _ _
  | void | untracked => exact Nat.le_add_left 1 6

theorem dispositionOf_eq_accepted {causes : List Cause} : dispositionOf causes = .accepted ↔ causes = [] := by
  rw [dispositionOf_eq]
  split <;> simp_all

/-- R106: all six fields are required when the record's own recipe is not VALID. -/
theorem requiredSet_eq (r : RecipeStore) (p : Product) :
    requiredSet r p = ((r.recipe p.recipe).map (·.required)).getD ⟨true, true, true, true, true, true⟩ := by
  unfold requiredSet
  cases r.recipe p.recipe <;> rfl

theorem LoadVerdict.isPass_eq_false (l : LoadVerdict) : l.isPass = false ↔ ∀ count, l ≠ .pass count := by
  cases l <;> simp [LoadVerdict.isPass]

theorem SealMark.isPass_eq_false (m : SealMark) : m.isPass = false ↔ ∀ dose, m ≠ .judged .pass dose := by
  cases m with
  | judged v dose => cases v <;> simp [SealMark.isPass]
  | none | aborted | double => simp [SealMark.isPass]

/-- Settles O29: the cause list is the ordered list of the conditions, filtered by those that hold. -/
theorem gateDecisionRule : Obligations.GateDecisionRule := by
  refine fun m r => ⟨rfl, rfl, fun _ => dispositionOf_eq_accepted, fun p req hreq => ?_⟩
  rw [causesOf, requiredSet_eq, ← hreq]
  refine ⟨productCauses_pairwise m req p, fun c => mem_productCauses.trans ?_⟩
  cases c with
  | held => simp [Product.fails, Option.isSome_iff_ne_none]
  | load => simp [Product.fails, LoadVerdict.isPass_eq_false, and_assoc]
  | heatSeal => simp [Product.fails, SealMark.isPass_eq_false, and_assoc]
  | form | card | inspect | aux => simp [Product.fails, and_assoc]
  | untracked | void => simp [Product.fails]

/-! ## REJECT pulses (R112) -/

theorem exec_rejectPulseExpiry {s : State} (hr : s.resetHeld = false) (now : Time) (lane : Lane) :
    exec (.rejectPulseExpiry now lane) s = .next (s.expirePulse now lane) :=
  congrArg Host.Outcome.next (if_neg (by simp [hr]))

theorem State.expirePulse_of_due {s : State} {now due : Time} {lane : Lane} (hp : s.gate.pulses.get lane = some due)
    (h : due ≤ now) :
    s.expirePulse now lane = s.setGate { s.gate with pulses := s.gate.pulses.set lane none } := by
  simp only [State.expirePulse, hp, if_pos h]

theorem State.expirePulse_of_running {s : State} {now due : Time} {lane : Lane}
    (hp : s.gate.pulses.get lane = some due) (h : now < due) : s.expirePulse now lane = s := by
  simp only [State.expirePulse, hp, if_neg (Nat.not_le.mpr h)]

/-- Settles O30: the expiry looks at its own lane's end time, and writes its own lane's pulse. -/
theorem pulseExpiryReleasesLane : Obligations.PulseExpiryReleasesLane := by
  intro now due lane s hr hp
  rw [exec_rejectPulseExpiry hr]
  refine ⟨fun h => ?_, fun h => ?_⟩
  · rw [State.expirePulse_of_due hp h]
    rfl
  · rw [State.expirePulse_of_running hp h]

/-! ## The log across an index (R108, R114, R115) -/

/-- R115: the sequence numbers of a log run consecutively up to the next one. -/
def numberedUpTo (next : BitVec 32) (log : List LogEntry) : Prop :=
  ∀ (k : Nat) (e : LogEntry), log[k]? = some e → e.seq = next - BitVec.ofNat 32 log.length + BitVec.ofNat 32 k

/-- R114: an entry is ACCEPTED exactly when its cause list is empty, and the list holds at most seven. -/
def LogEntry.decided (e : LogEntry) : Prop := (e.disposition = .accepted ↔ e.causes = []) ∧ e.causes.length ≤ 7

theorem Gate.logInv_iff (g : Gate) :
    g.logInv ↔ g.log.length ≤ 64 ∧ numberedUpTo g.nextSeq g.log ∧ ∀ e ∈ g.log, e.decided := Iff.rfl

theorem numberedUpTo.append {next : BitVec 32} {log : List LogEntry} (h : numberedUpTo next log) {e : LogEntry}
    (he : e.seq = next) : numberedUpTo (next + 1) (log ++ [e]) := by
  intro k x hx
  have hlen : next + 1 - BitVec.ofNat 32 (log ++ [e]).length = next - BitVec.ofNat 32 log.length := by
    rw [List.length_append, List.length_singleton]
    bv_omega
  rw [hlen]
  rw [List.getElem?_append] at hx
  split at hx
  · exact h k x hx
  · obtain ⟨hk, rfl⟩ := List.getElem?_eq_some_iff.mp hx
    obtain rfl : k = log.length := by
      rw [List.length_singleton] at hk
      omega
    simp [he]

theorem numberedUpTo.tail {next : BitVec 32} {log : List LogEntry} (h : numberedUpTo next log) :
    numberedUpTo next log.tail := by
  cases log with
  | nil => exact h
  | cons a log =>
    intro k x hx
    have hk := h (k + 1) x hx
    rw [List.length_cons] at hk
    rw [hk, List.tail_cons]
    bv_omega

/-- Every entry of a log after an entry is appended is that entry or stood in the log before. -/
theorem mem_appendEntry {log : List LogEntry} {e x : LogEntry} (h : x ∈ appendEntry log e) : x ∈ log ∨ x = e := by
  unfold appendEntry at h
  split at h <;> obtain h | h := List.mem_append.mp h
  · exact .inl h
  · exact .inr (List.mem_singleton.mp h)
  · exact .inl (List.mem_of_mem_tail h)
  · exact .inr (List.mem_singleton.mp h)

theorem appendEntry_length_le {log : List LogEntry} (h : log.length ≤ 64) (e : LogEntry) :
    (appendEntry log e).length ≤ 64 := by
  unfold appendEntry
  split <;> simp <;> omega

theorem appendEntry_numbered {next : BitVec 32} {log : List LogEntry} (h : numberedUpTo next log) {e : LogEntry}
    (he : e.seq = next) : numberedUpTo (next + 1) (appendEntry log e) := by
  unfold appendEntry
  split
  · exact h.append he
  · exact h.tail.append he

/-- R108, R114: the entry of a decision under a record's own cause list. -/
theorem logEntryOf_decided (seq indexCount : BitVec 32) (lane : Lane) (m : StationMap) (r : RecipeStore) (rec : Record) :
    (logEntryOf seq indexCount lane rec (causesOf m r rec)).decided :=
  ⟨dispositionOf_eq_accepted, causesOf_length_le m r rec⟩

theorem State.decideLane_logInv {s : State} (h : s.gate.logInv) (now : Time) (lane : Lane) :
    (s.decideLane now lane).gate.logInv := by
  rcases hr : s.recordAt lane (s.web.length - 1) with _ | r
  · have hsame : s.decideLane now lane = s := by
      unfold State.recordAt at hr
      simp only [State.decideLane, hr]
    rwa [hsame]
  · rw [State.decideLane_eq hr]
    obtain ⟨hlen, hseq, hent⟩ := s.gate.logInv_iff.mp h
    refine ⟨appendEntry_length_le hlen _, appendEntry_numbered hseq rfl, fun x hx => ?_⟩
    obtain hx | rfl := mem_appendEntry hx
    · exact hent x hx
    · exact logEntryOf_decided ..

theorem State.gateIndex_logInv {s : State} (h : s.gate.logInv) (now : Time) : (s.gateIndex now).gate.logInv := by
  have hfold (l : List Lane) (t : State) (ht : t.gate.logInv) : (l.foldl (State.decideLane now) t).gate.logInv := by
    induction l generalizing t with
    | nil => exact ht
    | cons lane l ih => exact ih _ (State.decideLane_logInv ht now lane)
  unfold State.gateIndex
  rw [State.raiseAt_eq]
  exact hfold _ s.endPulses h

/-- An INDEX edge, taken or not, keeps the log's invariant. -/
theorem State.indexEdge_logInv {s : State} (h : s.gate.logInv) (now : Time) (cards : Quad Bool) :
    (s.indexEdge now cards).gate.logInv := by
  unfold State.indexEdge
  split
  · rcases ha : s.mode.mode.active with _ | _
    · rw [State.takeIndex_inactive ha]
      exact h
    · rw [State.takeIndex_active ha]
      have hgate : ((s.shifted now).handOn now cards).gate = ((s.aborted now cards).gateIndex now).gate :=
        ((s.aborted now cards).gateIndex_drainCheck_from now).gate
      rw [hgate]
      exact State.gateIndex_logInv ((s.aborted_from now cards).gate ▸ h) now
  · exact h

/-- R121: the empty log that power-on and the RESET line leave. -/
theorem State.afterReset_logInv (s : State) (wake : Option Wake) : (s.afterReset false wake).gate.logInv :=
  ⟨Nat.zero_le _, nofun, nofun⟩

/-! ## What leaves the log alone (R116, R122)

No request and no port event touches the gate; a timer or a part reset may touch its settings and pulses, and keeps its
log and next sequence number. -/

@[simp] theorem State.raiseAt_gate (s : State) (p : Option Port) (f : EventFlag) : (s.raiseAt p f).gate = s.gate := by
  rw [State.raiseAt_eq]
  rfl

@[simp] theorem State.raiseAll_gate (s : State) (f : EventFlag) : (s.raiseAll f).gate = s.gate := rfl

@[simp] theorem State.startIdle_gate (s : State) (now : Time) : (s.startIdle now).gate = s.gate := rfl

@[simp] theorem State.judgeReference_gate (s : State) (c : RawCode) (source : RefSource) :
    (s.judgeReference c source).gate = s.gate := rfl

@[simp] theorem State.evaluateLane_gate (s : State) (added : Bool) (lane : Lane) :
    (s.evaluateLane added lane).gate = s.gate := by
  rw [State.evaluateLane_eq]
  rfl

@[simp] theorem State.evaluateLanes_gate (s : State) (before : Nat) : (s.evaluateLanes before).gate = s.gate := by
  obtain ⟨lanes, events, h⟩ := s.evaluateLanes_eq before
  rw [h]
  rfl

@[simp] theorem State.idlePass_gate (s : State) (temps : Quad RawCode) : (s.idlePass temps).gate = s.gate := by
  obtain ⟨lanes, events, h⟩ := s.idlePass_eq temps
  rw [h]
  rfl

@[simp] theorem State.endStroke_gate (s : State) (now : Time) (k : Stroke) (kind : EndKind)
    (verdict : StrokeLane → ReportVerdict) : (s.endStroke now k kind verdict).gate = s.gate := by
  rw [State.endStroke_eq]
  rfl

@[simp] theorem State.drainCheck_gate (s : State) : s.drainCheck.gate = s.gate := by
  obtain ⟨-, -, h⟩ | ⟨-, h⟩ := s.drainCheck_cases <;> rw [h]
  rfl

@[simp] theorem State.enterStandby_gate (s : State) (now : Time) : (s.enterStandby now).gate = s.gate := by
  rw [State.enterStandby_frame]

section
variable (s : State)

theorem takeEnterStandby_gate (now : Time) : (takeEnterStandby now s).1.gate = s.gate := by
  unfold takeEnterStandby withMode
  repeat' split
  all_goals simp

theorem takeStop_gate : (takeStop s).1.gate = s.gate := by
  unfold takeStop withMode
  split
  case h_4 => exact State.drainCheck_gate _
  all_goals rfl

theorem takeSetLaneRecipe_gate (lane presence slot : Byte) : (takeSetLaneRecipe lane presence slot s).1.gate = s.gate := by
  unfold takeSetLaneRecipe State.assign
  repeat' split
  all_goals simp

theorem takePostVerdict_gate (port : Port) (station lane : Byte) (serial : Serial) (value detail : Byte) :
    (takePostVerdict port station lane serial value detail s).1.gate = s.gate := by
  simp only [takePostVerdict, postRecord]
  repeat' split
  all_goals rfl

/-- No request changes anything of the gate. -/
theorem takeRequest_gate (now : Time) (port : Port) (r : Request) : (takeRequest now port r s).1.gate = s.gate := by
  cases r with
  | identify | readLineStatus | resetPart | readEvents => rfl
  | readRecord | findSerial | readPlane | readStrokeReport | readPlatens | readDischargeLog | readConfiguration
  | readRecipe | readPortMask =>
    simp only [takeRequest, takeReadRecord_state, takeFindSerial_state, takeReadPlane_state, takeReadStrokeReport_state,
      takeReadPlatens_state, takeReadDischargeLog_state, takeReadConfiguration_state, takeReadRecipe_state,
      takeReadPortMask_state]
  | enterStandby => exact takeEnterStandby_gate s now
  | stop => exact takeStop_gate s
  | setLaneRecipe lane presence slot => exact takeSetLaneRecipe_gate s lane presence slot
  | postVerdict station lane serial value detail => exact takePostVerdict_gate s ..
  | leaveStandby | start | declareWebBreak | setLaneMask | setHold | clearHold | setEventEnable | writeConfiguration
  | writeRecipe | setPortMask =>
    simp only [takeRequest, takeLeaveStandby, takeStart, takeDeclareWebBreak, takeSetLaneMask, takeSetHold, takeClearHold,
      holdRequest, takeSetEventEnable, takeWriteConfiguration, takeWriteRecipe, takeSetPortMask]
    repeat' split
    all_goals rfl

theorem answerFrame_gate (now : Time) (port : Port) (f : Frame) : (answerFrame now port f s).gate = s.gate := by
  unfold answerFrame
  split
  case h_4 => exact takeRequest_gate s ..
  all_goals rfl

theorem deliver_gate {answer : State → State} (h : ∀ s : State, (answer s).gate = s.gate) (port : Port) (f : Frame) :
    (deliver port f answer s).gate = s.gate := by
  simp only [deliver]
  repeat' split
  case h_3 => exact h _
  all_goals rfl

theorem frameComplete_gate (now : Time) (port : Port) (f : Frame) : (frameComplete now port f s).gate = s.gate :=
  deliver_gate s (fun s => answerFrame_gate s now port f) port f

theorem submit_gate (now : Time) (port : Port) (r : Request) : (submit now port r s).gate = s.gate :=
  deliver_gate (answer := answerRequest now port r) s (fun s => takeRequest_gate s now port r) port r.frame

theorem State.receiveByte_gate (begun now : Time) (port : Port) (b : Byte) :
    (s.receiveByte begun now port b).gate = s.gate := by
  unfold State.receiveByte
  repeat' split
  case h_2 => exact frameComplete_gate ..
  all_goals rfl

theorem State.answerHeld_gate (now : Time) (port : Port) : (s.answerHeld now port).gate = s.gate := by
  unfold State.answerHeld
  split
  · rfl
  · exact answerFrame_gate ..

theorem State.completeStroke_gate (now : Time) : (s.completeStroke now).gate = s.gate := by
  unfold State.completeStroke
  split
  · exact State.endStroke_gate ..
  · rfl

end

/-- From `s` to `t` the log and the next sequence number are kept. -/
def State.keepsLog (s t : State) : Prop := t.gate.log = s.gate.log ∧ t.gate.nextSeq = s.gate.nextSeq

theorem State.keepsLog.refl (s : State) : s.keepsLog s := ⟨rfl, rfl⟩

theorem State.keepsLog_of_gate {s t : State} (h : t.gate = s.gate) : s.keepsLog t := by
  rw [State.keepsLog, h]
  exact ⟨rfl, rfl⟩

theorem State.keepsLog.logInv {s t : State} (h : s.keepsLog t) (hs : s.gate.logInv) : t.gate.logInv := by
  obtain ⟨hlog, hseq⟩ := h
  rwa [Gate.logInv, hlog, hseq]

section
variable (s : State)

theorem State.expirePulse_keepsLog (now : Time) (lane : Lane) : s.keepsLog (s.expirePulse now lane) := by
  unfold State.expirePulse
  repeat' split
  all_goals exact ⟨rfl, rfl⟩

theorem State.takeEffect_keepsLog (c : Configuration) : s.keepsLog (s.takeEffect c) := by
  simp only [State.keepsLog, State.takeEffect, State.evaluateLanes_gate]
  exact ⟨rfl, rfl⟩

theorem State.completeWrite_keepsLog (w : StoreWrite) : s.keepsLog (s.completeWrite w) := by
  unfold State.completeWrite
  split
  · exact State.takeEffect_keepsLog _ _
  · exact ⟨rfl, rfl⟩

theorem State.storeCompletion_keepsLog (now accepted : Time) : s.keepsLog (s.storeCompletion now accepted) := by
  unfold State.storeCompletion
  repeat' split
  · exact s.completeWrite_keepsLog _
  all_goals exact .refl s

theorem State.storeDeadline_keepsLog (now : Time) : s.keepsLog (s.storeDeadline now) := by
  unfold State.storeDeadline State.abandonWrite
  repeat' split
  all_goals exact ⟨rfl, rfl⟩

theorem State.completeSelfCheck_keepsLog (now : Time) (w : Wake) (ref : RawCode) :
    s.keepsLog (s.completeSelfCheck now w ref) := by
  simp only [State.keepsLog, State.completeSelfCheck, State.raiseAll_gate, State.startIdle_gate, State.evaluateLanes_gate,
    State.setMode_gate, State.judgeReference_gate]
  split <;> exact ⟨rfl, rfl⟩

theorem State.selfCheckExpiry_keepsLog (now : Time) (ref : RawCode) : s.keepsLog (s.selfCheckExpiry now ref) := by
  unfold State.selfCheckExpiry
  repeat' split
  · exact s.completeSelfCheck_keepsLog ..
  all_goals exact .refl s

/-- R122: a part reset keeps the log. -/
theorem State.partReset_keepsLog (now : Time) : s.keepsLog (s.partReset now) := ⟨rfl, rfl⟩

theorem State.resetTaken_keepsLog (now : Time) (port : Port) : s.keepsLog (s.resetTaken now port) := by
  unfold State.resetTaken
  split
  · exact s.partReset_keepsLog now
  · exact .refl s

theorem State.responseSent_keepsLog (now : Time) (port : Port) : s.keepsLog (s.responseSent now port) := by
  unfold State.responseSent
  repeat' split
  · exact .refl s
  · exact s.partReset_keepsLog now
  · exact State.keepsLog_of_gate (State.answerHeld_gate _ now port)

end

/-! ## The step -/

/-- A line or timer command that keeps the log when it acts keeps it also while the RESET line is held. -/
theorem State.keepsLog_of_unlessHeld {s e t : State}
    (h : (Host.Outcome.next (if s.resetHeld then s else e) : Answer) = .next t) (he : s.keepsLog e) : s.keepsLog t := by
  cases h
  split
  · exact .refl s
  · exact he

/-- R116: the commands that change the log: an INDEX edge, power-on and the RESET line. -/
def changesLog : Instr → Prop
  | .indexEdge .. | .powerOn .. | .resetLineAssert .. | .resetLineRelease .. => True
  | _ => False

theorem changesLog_of_ne {c : Instr} (hi : ∀ now cards, c ≠ .indexEdge now cards) (hp : ∀ now, c ≠ .powerOn now)
    (ha : ∀ now, c ≠ .resetLineAssert now) (hr : ∀ now, c ≠ .resetLineRelease now) : ¬changesLog c := by
  cases c with
  | indexEdge now cards => exact absurd rfl (hi now cards)
  | powerOn now => exact absurd rfl (hp now)
  | resetLineAssert now => exact absurd rfl (ha now)
  | resetLineRelease now => exact absurd rfl (hr now)
  | _ => exact id

theorem exec_keepsLog {c : Instr} (hc : ¬changesLog c) {s t : State} (h : exec c s = .next t) : s.keepsLog t := by
  cases c with
  | indexEdge | powerOn | resetLineAssert | resetLineRelease => exact absurd trivial hc
  | sealRisingEdge | round | roundCap =>
    refine State.keepsLog_of_unlessHeld h ?_
    beta_reduce
    repeat' split
    all_goals exact ⟨rfl, rfl⟩
  | sealFallingEdge now => exact State.keepsLog_of_unlessHeld h (State.keepsLog_of_gate (s.completeStroke_gate now))
  | idlePass now temps =>
    refine State.keepsLog_of_unlessHeld h (State.keepsLog_of_gate ?_)
    beta_reduce
    repeat' split
    all_goals simp
  | rejectPulseExpiry now lane => exact State.keepsLog_of_unlessHeld h (s.expirePulse_keepsLog now lane)
  | selfCheckExpiry now ref => exact State.keepsLog_of_unlessHeld h (s.selfCheckExpiry_keepsLog now ref)
  | storeWriteCompletion now accepted => exact State.keepsLog_of_unlessHeld h (s.storeCompletion_keepsLog now accepted)
  | storeWriteDeadline now => exact State.keepsLog_of_unlessHeld h (s.storeDeadline_keepsLog now)
  | partResetTaken now port => exact State.keepsLog_of_unlessHeld h (s.resetTaken_keepsLog now port)
  | responseSent now port => exact State.keepsLog_of_unlessHeld h (s.responseSent_keepsLog now port)
  | interByteGap now port => exact State.keepsLog_of_unlessHeld h ⟨rfl, rfl⟩
  | badLenFrame begun now port len =>
    cases h
    exact State.keepsLog_of_gate (s.receiveByte_gate begun now port len)
  | byteReceived begun now port byte stopOk =>
    cases h
    cases stopOk
    · exact .refl s
    · exact State.keepsLog_of_gate (s.receiveByte_gate begun now port byte)
  | frameHeld | lostFrame | badCheck | unknown =>
    cases h
    exact State.keepsLog_of_gate (frameComplete_gate s ..)
  | _ =>
    cases h
    exact State.keepsLog_of_gate (submit_gate s ..)

theorem exec_logInv (c : Instr) {s t : State} (h : exec c s = .next t) (hs : s.gate.logInv) : t.gate.logInv := by
  cases c with
  | indexEdge now cards =>
    cases h
    split
    · exact hs
    · exact State.indexEdge_logInv hs now cards
  | powerOn now =>
    cases h
    exact s.afterReset_logInv _
  | resetLineAssert now =>
    cases h
    exact s.afterReset_logInv none
  | resetLineRelease now =>
    cases h
    unfold State.releaseReset
    split
    · exact s.afterReset_logInv (some (resetWake now))
    · exact hs
  | _ => exact (exec_keepsLog id h).logInv hs

/-- Settles O31: an INDEX edge appends a decision's entry for each lane, a reset but the part's empties the log, and no
other command touches it. -/
theorem stepKeepsLogInv : Obligations.StepKeepsLogInv := by
  intro s t h
  unfold step at h
  split at h
  · cases h
    exact ⟨id, fun _ _ _ _ => ⟨rfl, rfl⟩⟩
  · rename_i c rest hp
    refine ⟨fun hs => exec_logInv c h hs, fun hi hpo ha hr => ?_⟩
    simp only [hp, List.head?_cons, ne_eq, Option.some.injEq] at hi hpo ha hr
    have hkeeps := exec_keepsLog (changesLog_of_ne hi hpo ha hr) h
    exact hkeeps

/-! ## Reading the log (R118, R119) -/

/-- A run of consecutive positions of a list, picked out by a property of its elements. -/
theorem filter_eq_take_drop {α : Type} {l : List α} {p : α → Bool} {a n : Nat}
    (h : ∀ (k : Nat) (x : α), l[k]? = some x → (p x = true ↔ a ≤ k ∧ k < a + n)) :
    l.filter p = (l.drop a).take n := by
  have hbefore : (l.take a).filter p = [] := by
    refine List.filter_eq_nil_iff.mpr fun x hx => ?_
    obtain ⟨k, hk⟩ := List.mem_iff_getElem?.mp hx
    rw [List.getElem?_take, Option.ite_none_right_eq_some] at hk
    obtain ⟨hlt, hk⟩ := hk
    rw [h k x hk]
    omega
  have hwithin : ((l.drop a).take n).filter p = (l.drop a).take n := by
    refine List.filter_eq_self.mpr fun x hx => ?_
    obtain ⟨k, hk⟩ := List.mem_iff_getElem?.mp hx
    rw [List.getElem?_take, Option.ite_none_right_eq_some] at hk
    obtain ⟨hlt, hk⟩ := hk
    rw [List.getElem?_drop] at hk
    rw [h (a + k) x hk]
    omega
  have hafter : ((l.drop a).drop n).filter p = [] := by
    refine List.filter_eq_nil_iff.mpr fun x hx => ?_
    obtain ⟨k, hk⟩ := List.mem_iff_getElem?.mp hx
    rw [List.drop_drop, List.getElem?_drop] at hk
    rw [h (a + n + k) x hk]
    omega
  calc l.filter p = (l.take a ++ ((l.drop a).take n ++ (l.drop a).drop n)).filter p := by
        rw [List.take_append_drop, List.take_append_drop]
    _ = (l.drop a).take n := by
        rw [List.filter_append, List.filter_append, hbefore, hwithin, hafter, List.nil_append, List.append_nil]

/-- R119: where `first` is held, the entries answered are those whose distance from it, counted forwards with wrap, is
below the count. -/
theorem filter_log_eq {next first : BitVec 32} {log : List LogEntry} (hnum : numberedUpTo next log)
    (hlen : log.length ≤ 64) (hd : (next - first).toNat ≤ log.length) {count : Nat} (hc : count ≤ 8) :
    log.filter (fun e => decide ((e.seq - first).toNat < count)) =
      (log.drop (log.length - (next - first).toNat)).take count := by
  refine filter_eq_take_drop fun k e hk => ?_
  obtain ⟨hlt, -⟩ := List.getElem?_eq_some_iff.mp hk
  rw [hnum k e hk, decide_eq_true_iff]
  bv_omega

/-- R119: the four cases of the distance of `first`. -/
theorem Gate.readLog_cases {g : Gate} (h : g.logInv) (first : BitVec 32) {count : Nat} (hc : count ≤ 8) :
    let d := (g.nextSeq - first).toNat
    (d = 0 → g.readLog first count = (false, [])) ∧
    (1 ≤ d → d ≤ g.log.length →
      g.readLog first count = (false, g.log.filter fun e => decide ((e.seq - first).toNat < count))) ∧
    (2147483648 ≤ d → g.readLog first count = (false, [])) ∧
    (g.log.length < d → d < 2147483648 → g.readLog first count = (true, g.log.take count)) := by
  obtain ⟨hlen, hnum, -⟩ := g.logInv_iff.mp h
  simp only [Gate.readLog]
  refine ⟨fun h0 => if_pos h0, fun h1 hle => ?_, fun hge => ?_, fun hgt hlt => ?_⟩
  · rw [if_neg (by omega), if_pos hle, filter_log_eq hnum hlen hle hc]
  · rw [if_neg (by omega), if_neg (by omega), if_pos hge]
  · rw [if_neg (by omega), if_neg (by omega), if_neg (by omega)]

section
variable {s : State} {first : BitVec 32} {count : Byte}

theorem takeReadDischargeLog_waking (hm : s.mode.mode = .waking) :
    takeReadDischargeLog first count s = (s, Reply.refuse .busy) := if_pos hm

theorem takeReadDischargeLog_badValue (hm : s.mode.mode ≠ .waking) (h : count = 0 ∨ 9 ≤ count.toNat) :
    takeReadDischargeLog first count s = (s, Reply.refuse .badValue) := by
  have hw : within 1 8 count.toNat = false := by
    obtain rfl | h := h
    · rfl
    · simp [within, Nat.not_le.mpr h]
  simp [takeReadDischargeLog, hm, hw]

theorem takeReadDischargeLog_ok (hm : s.mode.mode ≠ .waking) (h1 : 1 ≤ count.toNat) (h8 : count.toNat ≤ 8) :
    takeReadDischargeLog first count s =
      (s, Reply.ok
        ([if (s.gate.readLog first count.toNat).1 then 1 else 0] ++
          le32 (s.gate.nextSeq - BitVec.ofNat 32 s.gate.log.length) ++ le32 s.gate.nextSeq ++
          [byteOf (s.gate.readLog first count.toNat).2.length] ++
          (s.gate.readLog first count.toNat).2.flatMap LogEntry.bytes)) := by
  have hw : within 1 8 count.toNat = true := by simp [within, h1, h8]
  simp only [takeReadDischargeLog, hm, hw, if_false, Bool.not_true, Bool.false_eq_true]
  rfl

end

/-- Settles O32: the gap mark and the entries are those of `Gate.readLog`, case by case. -/
theorem readDischargeLogReply : Obligations.ReadDischargeLogReply := by
  intro now port first count s hp hlog
  refine ⟨fun hm => ?_, fun hm hc => ?_, fun hm h1 h8 => ?_⟩
  · exact exec_request hp now (r := .readDischargeLog first count) (takeReadDischargeLog_waking hm)
  · exact exec_request hp now (r := .readDischargeLog first count) (takeReadDischargeLog_badValue hm hc)
  · refine ⟨(s.gate.readLog first count.toNat).1, (s.gate.readLog first count.toNat).2,
      exec_request hp now (r := .readDischargeLog first count) (takeReadDischargeLog_ok hm h1 h8), ?_⟩
    simpa only [Prod.ext_iff] using Gate.readLog_cases hlog first h8

end Sys2Proof.Machine
end

section
/-! # The law of RUN and DRAIN

R124 as an invariant. Most effects leave what it reads (`State.leavesModes`); some change the store
(`State.modeLaw_of_store`) or leave the part outside RUN and DRAIN (`State.modeLaw_of_not_producing`); Start, Set Lane Mask
and Set Lane Recipe rest on their checks. -/

namespace Sys2Proof.Machine
open Sys2Proof

/-! ## What the write engine is writing -/

section
variable {r : RecipeStore}

theorem RecipeStore.writingRecipe_iff {slot : RecipeSlot} :
    r.writingRecipe slot = true ↔ ∃ w contents, r.engine = some w ∧ w.target = .recipe slot contents := by
  unfold RecipeStore.writingRecipe
  rcases r.engine with _ | w
  · simp
  · rcases ht : w.target <;> simp [ht]

theorem RecipeStore.writingConfiguration_iff :
    r.writingConfiguration = true ↔ ∃ w contents, r.engine = some w ∧ w.target = .configuration contents := by
  unfold RecipeStore.writingConfiguration
  rcases r.engine with _ | w
  · simp
  · rcases ht : w.target <;> simp [ht]

end

/-! ## How the law is kept -/

/-- From `s` to `t` all that the law of the modes reads stays as it is, and RUN and DRAIN are not entered. -/
structure State.leavesModes (s t : State) : Prop where
  producing : t.mode.mode.producing = true → s.mode.mode.producing = true
  configState : t.mode.configState = s.mode.configState
  laneMask : t.mode.laneMask = s.mode.laneMask
  assignments : t.mode.assignments = s.mode.assignments
  lanes : t.web.lanes = s.web.lanes
  store : t.store = s.store

section
variable {s t : State}

theorem State.leavesModes.modeLaw (h : s.leavesModes t) (hs : s.modeLaw) : t.modeLaw := by
  obtain ⟨hprod, hmask, hwrite⟩ := hs
  unfold State.modeLaw
  rw [h.configState, h.laneMask, h.assignments, h.lanes, h.store]
  exact ⟨fun hp => hprod (h.producing hp), hmask, hwrite⟩

theorem State.leavesModes.trans {u : State} (h : s.leavesModes t) (h' : t.leavesModes u) : s.leavesModes u :=
  ⟨fun hp => h.producing (h'.producing hp), h'.configState.trans h.configState, h'.laneMask.trans h.laneMask,
    h'.assignments.trans h.assignments, h'.lanes.trans h.lanes, h'.store.trans h.store⟩

/-- Outside RUN and DRAIN the law speaks of the lane mask and of the slot being written alone. -/
theorem State.modeLaw_of_not_producing (hp : t.mode.mode.producing = false)
    (hmask : ∀ lane : Lane, t.mode.laneMask.get lane = true → lane.val < t.web.lanes)
    (hwrite : ∀ (lane : Lane) (slot : RecipeSlot), lane.val < t.web.lanes → t.store.writingRecipe slot = true →
      t.mode.assignments.get lane ≠ some slot) : t.modeLaw :=
  ⟨fun h => absurd h (by simp [hp]), hmask, hwrite⟩

/-- A change of the store alone keeps the law when no assigned block ceases to be VALID, no write of a configuration
begins, and no slot that comes to be written is assigned. -/
theorem State.modeLaw_of_store (hs : s.modeLaw) {r : RecipeStore}
    (hvalid : ∀ (lane : Lane) (slot : RecipeSlot), lane.val < s.web.lanes → s.mode.assignments.get lane = some slot →
      (s.store.recipes.get slot).state = .valid → (r.recipes.get slot).state = .valid)
    (hconf : r.writingConfiguration = false)
    (hwrite : ∀ (lane : Lane) (slot : RecipeSlot), lane.val < s.web.lanes → r.writingRecipe slot = true →
      s.mode.assignments.get lane ≠ some slot) : (s.setStore r).modeLaw := by
  obtain ⟨hprod, hmask, -⟩ := hs
  refine ⟨fun hp => ?_, hmask, hwrite⟩
  obtain ⟨hstate, -, hassigned⟩ := hprod hp
  refine ⟨hstate, hconf, fun lane hl => ?_⟩
  obtain ⟨slot, ha, hv⟩ := hassigned lane hl
  exact ⟨slot, ha, hvalid lane slot (hmask lane hl) ha hv⟩

/-- No configuration is being written in RUN and DRAIN. -/
theorem State.modeLaw.not_producing_of_writing (hs : s.modeLaw) {w : StoreWrite} {contents : ConfigWire}
    (h : s.store.engine = some w) (ht : w.target = .configuration contents) : s.mode.mode.producing = false := by
  obtain ⟨hprod, -, -⟩ := hs
  have hw : s.store.writingConfiguration = true := RecipeStore.writingConfiguration_iff.mpr ⟨w, contents, h, ht⟩
  rw [← Bool.not_eq_true]
  intro hp
  obtain ⟨-, hnot, -⟩ := hprod hp
  rw [hw] at hnot
  cases hnot

/-- R150: a lane mask cut to a geometry holds lanes of that geometry alone. -/
theorem lt_of_restrict_false {q : Quad Bool} {n : Nat} {lane : Lane} (h : (q.restrict n false).get lane = true) :
    lane.val < n := by
  rw [Quad.get_restrict] at h
  by_contra hn
  rw [if_neg hn] at h
  cases h

/-! ## Effects that leave the law alone -/

theorem State.changeMode_leavesModes {m : Mode} (h : m.producing = true → s.mode.mode.producing = true) :
    s.leavesModes (s.changeMode m) := ⟨h, rfl, rfl, rfl, rfl, rfl⟩

theorem State.drainCheck_leavesModes (s : State) : s.leavesModes s.drainCheck := by
  obtain ⟨-, -, h⟩ | ⟨-, h⟩ := s.drainCheck_cases <;> rw [h]
  · exact State.changeMode_leavesModes nofun
  · exact ⟨id, rfl, rfl, rfl, rfl, rfl⟩

theorem State.evaluateLanes_leavesModes (s : State) (before : Nat) : s.leavesModes (s.evaluateLanes before) := by
  obtain ⟨lanes, events, h⟩ := s.evaluateLanes_eq before
  rw [h]
  exact ⟨id, rfl, rfl, rfl, rfl, rfl⟩

theorem State.idlePass_leavesModes (s : State) (temps : Quad RawCode) : s.leavesModes (s.idlePass temps) := by
  obtain ⟨lanes, events, h⟩ := s.idlePass_eq temps
  rw [h]
  exact ⟨id, rfl, rfl, rfl, rfl, rfl⟩

theorem State.endStroke_leavesModes (s : State) (now : Time) (k : Stroke) (kind : EndKind)
    (verdict : StrokeLane → ReportVerdict) : s.leavesModes (s.endStroke now k kind verdict) := by
  rw [State.endStroke_eq]
  exact ⟨id, rfl, rfl, rfl, rfl, rfl⟩

theorem State.enterStandby_leavesModes (s : State) (now : Time) : s.leavesModes (s.enterStandby now) := by
  rw [State.enterStandby_frame]
  exact ⟨nofun, rfl, rfl, rfl, rfl, rfl⟩

theorem State.aborted_leavesModes (s : State) (now : Time) (cards : Quad Bool) :
    s.leavesModes (s.aborted now cards) := by
  have h := s.aborted_from now cards
  exact ⟨by rw [h.mode]; exact id, by rw [h.mode], by rw [h.mode], by rw [h.mode], by rw [h.web]; rfl, h.store⟩

theorem State.gateIndex_leavesModes (s : State) (now : Time) : s.leavesModes (s.gateIndex now) := by
  rw [State.gateIndex_eq]
  exact ⟨id, rfl, rfl, rfl, rfl, rfl⟩

/-- R133: of what the law reads, a taken index changes the mode alone, from DRAIN to SETUP. -/
theorem State.index_leavesModes (s : State) (now : Time) (cards : Quad Bool) :
    s.leavesModes ((s.aborted now cards).gateIndex now).drainCheck :=
  ((s.aborted_leavesModes now cards).trans (State.gateIndex_leavesModes _ now)).trans (State.drainCheck_leavesModes _)

/-! ## Lanes that come into production (R130, R143) -/

/-- R130, R143: the last two checks of Start, on the masked lanes, and of Set Lane Mask, on the lanes it adds. -/
def State.lanesRefusal (s : State) (l : List Lane) : Option Status :=
  if !l.all s.laneRecipeValid then some .recipeInvalid
  else if !l.all s.laneReady then some .notReady
  else none

theorem State.all_laneRecipeValid_iff {l : List Lane} :
    l.all s.laneRecipeValid = true ↔ ∀ lane ∈ l, s.assignedValid lane := by
  simp only [List.all_eq_true, laneRecipeValid_iff]

theorem State.all_laneReady_iff {l : List Lane} :
    l.all s.laneReady = true ↔ ∀ lane ∈ l, (s.acq.lanes.get lane).ready = .ready := by
  simp only [List.all_eq_true, State.laneReady, beq_iff_eq]

theorem State.lanesRefusal_recipeInvalid {l : List Lane} (h : ∃ lane ∈ l, ¬s.assignedValid lane) :
    s.lanesRefusal l = some .recipeInvalid := by
  obtain ⟨lane, hl, hv⟩ := h
  refine if_pos ?_
  rw [Bool.not_eq_true', ← Bool.not_eq_true, State.all_laneRecipeValid_iff]
  exact fun hall => hv (hall lane hl)

theorem State.lanesRefusal_notReady {l : List Lane} (hv : ∀ lane ∈ l, s.assignedValid lane)
    (h : ∃ lane ∈ l, (s.acq.lanes.get lane).ready ≠ .ready) : s.lanesRefusal l = some .notReady := by
  obtain ⟨lane, hl, hr⟩ := h
  have hready : l.all s.laneReady = false := by
    rw [← Bool.not_eq_true, State.all_laneReady_iff]
    exact fun hall => hr (hall lane hl)
  simp [State.lanesRefusal, State.all_laneRecipeValid_iff.mpr hv, hready]

theorem State.lanesRefusal_eq_none_iff {l : List Lane} :
    s.lanesRefusal l = none ↔ ∀ lane ∈ l, s.assignedValid lane ∧ (s.acq.lanes.get lane).ready = .ready := by
  have h : s.lanesRefusal l = none ↔ l.all s.laneRecipeValid = true ∧ l.all s.laneReady = true := by
    unfold State.lanesRefusal
    cases l.all s.laneRecipeValid <;> cases l.all s.laneReady <;> simp
  rw [h, State.all_laneRecipeValid_iff, State.all_laneReady_iff]
  exact forall₂_and.symm

theorem State.mem_maskedLanes {lane : Lane} :
    lane ∈ s.maskedLanes ↔ lane.val < s.web.lanes ∧ s.mode.laneMask.get lane = true := by
  simp [State.maskedLanes]

/-- R130: the checks of Start, in their order. -/
theorem State.startRefusal_eq (s : State) :
    s.startRefusal =
      if s.store.writingConfiguration then some .busy
      else if s.mode.configState ≠ .valid then some .configInvalid
      else if s.maskedLanes.isEmpty then some .badValue
      else s.lanesRefusal s.maskedLanes := rfl

theorem State.startRefusal_eq_none (h : s.startRefusal = none) :
    s.mode.configState = .valid ∧ s.store.writingConfiguration = false ∧
      ∀ lane ∈ s.maskedLanes, s.assignedValid lane := by
  rw [State.startRefusal_eq] at h
  split at h
  · cases h
  · rename_i hw
    split at h
    · cases h
    · rename_i hc
      split at h
      · cases h
      · exact ⟨not_not.mp hc, by simpa using hw, fun lane hl => (State.lanesRefusal_eq_none_iff.mp h lane hl).1⟩

/-- R181: the lanes of a set lie below N exactly when its byte does not reach the bit of lane N. -/
theorem laneSet_lt_iff {lanes : Nat} {set : Byte} :
    set.toNat < 2 ^ lanes ↔ ∀ n, set.getLsbD n = true → n < lanes := by
  constructor
  · intro h n hn
    by_contra hge
    have hle : 2 ^ lanes ≤ 2 ^ n := Nat.pow_le_pow_right Nat.two_pos (Nat.not_lt.mp hge)
    have hbit : 2 ^ n ≤ set.toNat := Nat.ge_two_pow_of_testBit hn
    omega
  · intro h
    refine Nat.lt_pow_two_of_testBit _ fun n hn => ?_
    rw [← Bool.not_eq_true]
    exact fun hbit => absurd (h n hbit) (Nat.not_lt.mpr hn)

theorem laneSetOf_get (set : Byte) (lane : Lane) : (laneSetOf set).get lane = set.getLsbD lane.val :=
  Quad.get_ofFn ..

/-- R143: the lanes that a Set Lane Mask adds. -/
def State.addedLanes (s : State) (set : Byte) : List Lane :=
  (lanesBelow s.web.lanes).filter fun n => (laneSetOf set).get n && !s.mode.laneMask.get n

theorem State.mem_addedLanes {set : Byte} {lane : Lane} :
    lane ∈ s.addedLanes set ↔
      lane.val < s.web.lanes ∧ set.getLsbD lane.val = true ∧ s.mode.laneMask.get lane = false := by
  simp [State.addedLanes, laneSetOf_get]

/-- R143: the checks of Set Lane Mask, in their order. -/
theorem State.maskRefusal_eq (s : State) (set : Byte) :
    s.maskRefusal set =
      if 2 ^ s.web.lanes ≤ set.toNat then some .badValue
      else if !s.mode.mode.producing then none
      else if set = 0 then some .badValue
      else s.lanesRefusal (s.addedLanes set) := rfl

theorem State.maskRefusal_eq_none {set : Byte} (h : s.maskRefusal set = none) :
    (∀ n, set.getLsbD n = true → n < s.web.lanes) ∧
      (s.mode.mode.producing = true → ∀ lane ∈ s.addedLanes set, s.assignedValid lane) := by
  rw [State.maskRefusal_eq] at h
  split at h
  · cases h
  · rename_i hlt
    refine ⟨laneSet_lt_iff.mp (Nat.not_le.mp hlt), fun hp => ?_⟩
    rw [hp, Bool.not_true, if_neg Bool.false_ne_true] at h
    split at h
    · cases h
    · exact fun lane hl => (State.lanesRefusal_eq_none_iff.mp h lane hl).1

theorem State.assignRefusal_eq_none {lane : Lane} {recipe : Option RecipeSlot}
    (h : s.assignRefusal lane recipe = none) :
    (recipe = none → s.mode.mode.producing = true → s.mode.laneMask.get lane = false) ∧
      ∀ slot, recipe = some slot →
        s.store.writingRecipe slot = false ∧ (s.store.recipes.get slot).state = .valid := by
  refine ⟨?_, ?_⟩
  · rintro rfl hp
    rw [← Bool.not_eq_true]
    intro hm
    rw [State.assignRefusal_masked hp hm] at h
    cases h
  · rintro slot rfl
    have hw : s.store.writingRecipe slot = false := by
      rw [← Bool.not_eq_true]
      intro hw
      rw [State.assignRefusal_writing hw] at h
      cases h
    refine ⟨hw, ?_⟩
    by_contra hv
    rw [State.assignRefusal_invalid hw hv] at h
    cases h

/-! ## Effects that the law constrains -/

/-- R130, R132: Start checks what the law asks for, and in DRAIN the law already holds. -/
theorem State.start_modeLaw (hs : s.modeLaw)
    (h : s.mode.mode = .drain ∨ (s.mode.mode = .setup ∧ s.startRefusal = none)) : (s.changeMode .run).modeLaw := by
  obtain ⟨hprod, hmask, hwrite⟩ := hs
  refine ⟨fun _ => ?_, hmask, hwrite⟩
  obtain hm | ⟨-, hr⟩ := h
  · exact hprod (by rw [hm]; rfl)
  · obtain ⟨hc, hw, hvalid⟩ := State.startRefusal_eq_none hr
    exact ⟨hc, hw, fun lane hl => hvalid lane (State.mem_maskedLanes.mpr ⟨hmask lane hl, hl⟩)⟩

/-- R143: a lane of the new mask was masked before, or is added with a VALID recipe. -/
theorem State.laneMask_modeLaw (hs : s.modeLaw) {set : Byte} (h : s.maskRefusal set = none) :
    (s.setMode { s.mode with laneMask := laneSetOf set }).modeLaw := by
  obtain ⟨hprod, -, hwrite⟩ := hs
  obtain ⟨hlt, hadded⟩ := State.maskRefusal_eq_none h
  refine ⟨fun hp => ?_, fun lane hl => hlt _ (laneSetOf_get set lane ▸ hl), hwrite⟩
  obtain ⟨hc, hw, hvalid⟩ := hprod hp
  refine ⟨hc, hw, fun lane hl => ?_⟩
  rw [State.setMode_mode, laneSetOf_get] at hl
  cases hm : s.mode.laneMask.get lane with
  | true => exact hvalid lane hm
  | false => exact hadded hp lane (State.mem_addedLanes.mpr ⟨hlt _ hl, hl, hm⟩)

/-- R146: in RUN and DRAIN a masked lane gets a VALID recipe or keeps its own, and no slot being written is assigned. -/
theorem State.assign_modeLaw (hs : s.modeLaw) {lane : Lane} {recipe : Option RecipeSlot}
    (h : s.assignRefusal lane recipe = none) : (s.assign lane recipe).modeLaw := by
  obtain ⟨hprod, hmask, hwrite⟩ := hs
  obtain ⟨hnone, hsome⟩ := State.assignRefusal_eq_none h
  rw [State.assign_frame]
  refine ⟨fun hp => ?_, hmask, fun n slot hn hw => ?_⟩
  · obtain ⟨hc, hconf, hvalid⟩ := hprod hp
    refine ⟨hc, hconf, fun n hn => ?_⟩
    show ∃ slot, (s.mode.assignments.set lane recipe).get n = some slot ∧ _
    rw [Quad.get_set]
    split
    · rename_i hl
      subst hl
      cases recipe with
      | none => exact absurd hn (by simp [hnone rfl hp])
      | some slot => exact ⟨slot, rfl, (hsome slot rfl).2⟩
    · exact hvalid n hn
  · show (s.mode.assignments.set lane recipe).get n ≠ some slot
    rw [Quad.get_set]
    split
    · rintro rfl
      rw [(hsome slot rfl).1] at hw
      cases hw
    · exact hwrite n slot hn hw

theorem State.reset_modeLaw (s : State) (keep : Bool) (wake : Option Wake) (held : Bool) :
    ({ s.afterReset keep wake with resetHeld := held } : State).modeLaw :=
  State.modeLaw_of_not_producing rfl (fun _ hl => lt_of_restrict_false hl) nofun

/-- R136, R137: a self-check ends in SETUP, with the lane mask and the assignments as they were or the factory
default's. -/
theorem State.completeSelfCheck_modeLaw (hs : s.modeLaw) (now : Time) (w : Wake) (ref : RawCode) :
    (s.completeSelfCheck now w ref).modeLaw := by
  obtain ⟨-, hmask, hwrite⟩ := hs
  by_cases hv : s.store.config.verifiesTo configFault .valid
  · rw [State.completeSelfCheck_valid now w ref hv, State.woken_frame]
    exact State.modeLaw_of_not_producing rfl hmask hwrite
  · have hturned : (s.factoryTurned ref).modeLaw := by
      refine State.modeLaw_of_not_producing rfl (fun _ hl => lt_of_restrict_false hl) fun lane slot _ _ => ?_
      show ((Quad.fill none).restrict 2 none).get lane ≠ some slot
      simp
    rw [State.completeSelfCheck_invalid hv]
    exact (State.evaluateLanes_leavesModes _ s.web.lanes).modeLaw hturned

/-- R165, R168: a recipe written is VALID; a configuration takes effect outside RUN and DRAIN alone. -/
theorem State.completeWrite_modeLaw (hs : s.modeLaw) {w : StoreWrite} (h : s.store.engine = some w) :
    (s.completeWrite w).modeLaw := by
  cases ht : w.target with
  | recipe slot contents =>
    have hstore : (s.setStore (s.store.complete (.recipe slot contents))).modeLaw := by
      refine State.modeLaw_of_store hs (fun lane n _ _ hv => ?_) rfl nofun
      show ((s.store.recipes.set slot (Block.written contents)).get n).state = .valid
      rw [Bank.get_set]
      split
      · rfl
      · exact hv
    simp only [State.completeWrite, ht]
    exact hstore
  | configuration contents =>
    rw [State.completeWrite_configuration s ht]
    refine (State.evaluateLanes_leavesModes _ s.web.lanes).modeLaw ?_
    exact State.modeLaw_of_not_producing (hs.not_producing_of_writing h ht) (fun _ hl => lt_of_restrict_false hl) nofun

/-- R149, R166: a recipe slot abandoned is no lane's assignment, and a configuration is abandoned outside RUN and DRAIN
alone. -/
theorem State.abandonWrite_modeLaw (hs : s.modeLaw) {w : StoreWrite} (h : s.store.engine = some w) :
    (s.abandonWrite w).modeLaw := by
  cases ht : w.target with
  | recipe slot contents =>
    have ⟨_, _, hwrite⟩ := hs
    have hw : s.store.writingRecipe slot = true := RecipeStore.writingRecipe_iff.mpr ⟨w, contents, h, ht⟩
    have hstore : (s.setStore (s.store.abandon (.recipe slot contents))).modeLaw := by
      refine State.modeLaw_of_store hs (fun lane n hl ha hv => ?_) rfl nofun
      show ((s.store.recipes.set slot (s.store.recipes.get slot).abandoned).get n).state = .valid
      rw [Bank.get_set, if_neg]
      · exact hv
      · rintro rfl
        exact hwrite lane slot hl hw ha
    simp only [State.abandonWrite, ht]
    exact hstore
  | configuration contents =>
    have ⟨_, hmask, _⟩ := hs
    simp only [State.abandonWrite, ht]
    exact State.modeLaw_of_not_producing (hs.not_producing_of_writing h ht) hmask nofun

/-- R163: the slot whose write is accepted is no lane's assignment. -/
theorem State.acceptRecipe_modeLaw (hs : s.modeLaw) {slot : RecipeSlot} (hu : s.slotInUse slot = false)
    (contents : RecipeWire) (now : Time) (port : Port) : (s.acceptWrite now port (.recipe slot contents)).modeLaw := by
  refine State.modeLaw_of_store hs (fun lane n _ _ hv => ?_) rfl fun lane n hl hw ha => ?_
  · show ((s.store.recipes.set slot (s.store.recipes.get slot).accept).get n).state = .valid
    rw [Bank.get_set]
    split
    · rename_i hn
      exact hn ▸ hv
    · exact hv
  · obtain ⟨_, _, he, ht⟩ := RecipeStore.writingRecipe_iff.mp hw
    cases he
    cases ht
    exact absurd (slotInUse_iff.mpr (.inr ⟨lane, hl, ha⟩)) (by simp [hu])

theorem State.acceptConfiguration_modeLaw (hs : s.modeLaw) (hm : s.mode.mode = .setup) (contents : ConfigWire)
    (now : Time) (port : Port) : (s.acceptWrite now port (.configuration contents)).modeLaw := by
  obtain ⟨-, hmask, -⟩ := hs
  refine State.modeLaw_of_not_producing (congrArg Mode.producing hm) hmask fun lane n _ hw => ?_
  obtain ⟨_, _, he, ht⟩ := RecipeStore.writingRecipe_iff.mp hw
  cases he
  cases ht

/-- R124 across each effect. -/
theorem State.Effect.modeLaw (h : s.Effect t) (hs : s.modeLaw) : t.modeLaw := by
  cases h with
  | pending | ports | events | pulses | rows | indexFrozen | strokeStart | round | roundCap | webBreak
  | masks => exact hs
  | index now cards => exact (s.index_leavesModes now cards).modeLaw hs
  | strokeEnd now => exact (s.endStroke_leavesModes ..).modeLaw hs
  | idlePass temps => exact (s.idlePass_leavesModes temps).modeLaw hs
  | selfCheck now ref => exact State.completeSelfCheck_modeLaw hs ..
  | written h => exact State.completeWrite_modeLaw hs h
  | abandoned h => exact State.abandonWrite_modeLaw hs h
  | reset keep wake held => exact s.reset_modeLaw ..
  | standby now => exact (s.enterStandby_leavesModes now).modeLaw hs
  | waking now =>
    have hchange : (s.changeMode .waking).modeLaw := (State.changeMode_leavesModes (m := .waking) nofun).modeLaw hs
    exact hchange
  | start h => exact State.start_modeLaw hs h
  | stop hm =>
    exact (State.drainCheck_leavesModes _).modeLaw
      ((State.changeMode_leavesModes fun _ => congrArg Mode.producing hm).modeLaw hs)
  | webBreakRunning => exact (State.changeMode_leavesModes (s := s.loseTrack) (m := .setup) nofun).modeLaw hs
  | laneMask _ h => exact State.laneMask_modeLaw hs h
  | assign _ _ h => exact State.assign_modeLaw hs h
  | acceptRecipe now port _ _ hu => exact State.acceptRecipe_modeLaw hs hu _ now port
  | acceptConfiguration now port hm => exact State.acceptConfiguration_modeLaw hs hm _ now port

end

/-- Settles O39: every effect keeps the law of the modes. -/
theorem stepKeepsModeLaw : Obligations.StepKeepsModeLaw := by
  intro s t hs h
  exact step_keeps (fun _ _ he hs => he.modeLaw hs) hs h

end Sys2Proof.Machine
end

section
/-! # The mode requests, the lane mask and the line's standing

Start, Stop and Set Lane Mask where they act and where they are refused, the cells of R125 that change no mode, the read
of the line's standing, and the deadline of a store write. -/

namespace Sys2Proof.Machine
open Sys2Proof

theorem Mode.producing_iff {m : Mode} : m.producing = true ↔ m = .run ∨ m = .drain := by
  cases m <;> simp [Mode.producing]

theorem Mode.active_iff {m : Mode} : m.active = true ↔ m = .setup ∨ m = .run ∨ m = .drain := by
  cases m <;> simp [Mode.active]

/-! ## Start (R125, R130, R132) -/

section
variable {s : State}

theorem State.startRefusal_busy (hw : s.store.writingConfiguration = true) : s.startRefusal = some .busy := if_pos hw

variable (hw : s.store.writingConfiguration = false)
include hw

theorem State.startRefusal_configInvalid (hc : s.mode.configState ≠ .valid) : s.startRefusal = some .configInvalid := by
  simp [State.startRefusal_eq, hw, hc]

variable (hc : s.mode.configState = .valid)
include hc

theorem State.startRefusal_badValue (h : ∀ lane, lane ∉ s.maskedLanes) : s.startRefusal = some .badValue := by
  simp [State.startRefusal_eq, hw, hc, List.eq_nil_iff_forall_not_mem.mpr h]

/-- R130: with a lane in the mask, the last two checks decide. -/
theorem State.startRefusal_masked {lane : Lane} (h : lane ∈ s.maskedLanes) :
    s.startRefusal = s.lanesRefusal s.maskedLanes := by
  have hne : s.maskedLanes ≠ [] := List.ne_nil_of_mem h
  simp [State.startRefusal_eq, hw, hc, hne]

end

section
variable {s : State}

theorem takeStart_refused (hm : s.mode.mode = .setup) {st : Status} (hr : s.startRefusal = some st) :
    takeStart s = (s, Reply.refuse st) := by
  simp only [takeStart, hm, hr]

theorem takeStart_setup (hm : s.mode.mode = .setup) (hr : s.startRefusal = none) :
    takeStart s = (s.changeMode .run, Reply.ok [4]) := by
  simp only [takeStart, hm, hr]
  rfl

theorem takeStart_drain (hm : s.mode.mode = .drain) : takeStart s = (s.changeMode .run, Reply.ok [4]) := by
  simp only [takeStart, hm]
  rfl

/-! ## Stop (R125, R129, R133) -/

/-- Two changes of the mode in one step raise MODE as one does. -/
theorem State.changeMode_changeMode (s : State) (a b : Mode) : (s.changeMode a).changeMode b = s.changeMode b :=
  congrArg (fun e => ({ s with mode := { s.mode with mode := b }, events := e } : State))
    (s.flagging_flagging 0x020 0x020)

theorem takeStop_drained (hm : s.mode.mode = .run) (hn : s.noProduct) :
    takeStop s = (s.changeMode .setup, Reply.ok [3]) := by
  have hcheck : (s.changeMode .drain).drainCheck = s.changeMode .setup := by
    rw [← State.changeMode_changeMode s .drain .setup]
    exact if_pos ⟨rfl, productCount_eq_zero.mpr hn⟩
  simp only [takeStop, hm, hcheck]
  rfl

theorem takeStop_draining (hm : s.mode.mode = .run) (hn : ¬s.noProduct) :
    takeStop s = (s.changeMode .drain, Reply.ok [5]) := by
  have hcheck : (s.changeMode .drain).drainCheck = s.changeMode .drain :=
    if_neg fun ⟨_, hzero⟩ => hn (productCount_eq_zero.mp hzero)
  simp only [takeStop, withMode, hm, hcheck]
  rfl

end

/-- Settles O34: the checks of Start in their order, and Stop with and without a PRODUCT record. -/
theorem startAndStop : Obligations.StartAndStop := by
  refine ⟨?_, ?_⟩
  · intro now port s hp masked running
    have hexec {t st data} := exec_request (t := t) (st := st) (data := data) hp now (r := .start)
    have hmem {lane : Lane} : lane ∈ s.maskedLanes ↔ masked lane := State.mem_maskedLanes
    refine ⟨fun hm => hexec (takeStart_drain hm),
      fun hm hw => hexec (takeStart_refused hm (State.startRefusal_busy hw)),
      fun hm hw => ⟨fun hc => hexec (takeStart_refused hm (State.startRefusal_configInvalid hw hc)), fun hc =>
        ⟨fun hnone => ?_, ?_, ?_⟩⟩⟩
    · exact hexec (takeStart_refused hm (State.startRefusal_badValue hw hc fun lane hl => hnone lane (hmem.mp hl)))
    · rintro ⟨lane, hl, hv⟩
      have hl := hmem.mpr hl
      have hr := (State.startRefusal_masked hw hc hl).trans (State.lanesRefusal_recipeInvalid ⟨lane, hl, hv⟩)
      exact hexec (takeStart_refused hm hr)
    · rintro ⟨lane, hl⟩ hvalid
      have hr := State.startRefusal_masked hw hc (hmem.mpr hl)
      simp only [← hmem] at hvalid ⊢
      refine ⟨fun hnot => ?_, fun hready => ?_⟩
      · exact hexec (takeStart_refused hm (hr.trans (State.lanesRefusal_notReady hvalid hnot)))
      · have hnone := State.lanesRefusal_eq_none_iff.mpr fun lane hl => ⟨hvalid lane hl, hready lane hl⟩
        exact hexec (takeStart_setup hm (hr.trans hnone))
  · intro now port s hp hm stopped
    exact ⟨fun hn => exec_request hp now (r := .stop) (takeStop_drained hm hn),
      fun hn => exec_request hp now (r := .stop) (takeStop_draining hm hn)⟩

/-! ## The cells of R125 that change no mode -/

section
variable {s : State} {now : Time}

theorem takeEnterStandby_waking (hm : s.mode.mode = .waking) : takeEnterStandby now s = (s, Reply.refuse .busy) := by
  simp only [takeEnterStandby, hm]

theorem takeEnterStandby_standby (hm : s.mode.mode = .standby) : takeEnterStandby now s = (s, Reply.ok [1]) := by
  simp only [takeEnterStandby, withMode, hm, Mode.code]

theorem takeEnterStandby_writing (ha : s.mode.mode.active = true) (he : s.store.engine ≠ none) :
    takeEnterStandby now s = (s, Reply.refuse .busy) := by
  have hbusy := Option.isSome_iff_ne_none.mpr he
  obtain hm | hm | hm := Mode.active_iff.mp ha <;> simp only [takeEnterStandby, hm, hbusy, if_true]

theorem takeLeaveStandby_waking (hm : s.mode.mode = .waking) : takeLeaveStandby now s = (s, Reply.refuse .busy) := by
  simp only [takeLeaveStandby, hm]

theorem takeLeaveStandby_writing (hm : s.mode.mode = .standby) (he : s.store.engine ≠ none) :
    takeLeaveStandby now s = (s, Reply.refuse .busy) := by
  simp only [takeLeaveStandby, hm, Option.isSome_iff_ne_none.mpr he, if_true]

theorem takeLeaveStandby_active (ha : s.mode.mode.active = true) : takeLeaveStandby now s = withMode s := by
  obtain hm | hm | hm := Mode.active_iff.mp ha <;> simp only [takeLeaveStandby, hm]

theorem takeStart_waking (hm : s.mode.mode = .waking) : takeStart s = (s, Reply.refuse .busy) := by
  simp only [takeStart, hm]

theorem takeStart_standby (hm : s.mode.mode = .standby) : takeStart s = (s, Reply.refuse .standby) := by
  simp only [takeStart, hm]

theorem takeStart_run (hm : s.mode.mode = .run) : takeStart s = (s, Reply.ok [4]) := by
  simp only [takeStart, withMode, hm, Mode.code]

theorem takeStop_waking (hm : s.mode.mode = .waking) : takeStop s = (s, Reply.refuse .busy) := by
  simp only [takeStop, hm]

theorem takeStop_standby (hm : s.mode.mode = .standby) : takeStop s = (s, Reply.refuse .standby) := by
  simp only [takeStop, hm]

theorem takeStop_setup (hm : s.mode.mode = .setup) : takeStop s = (s, Reply.refuse .wrongMode) := by
  simp only [takeStop, hm]

theorem takeStop_drain (hm : s.mode.mode = .drain) : takeStop s = (s, Reply.ok [5]) := by
  simp only [takeStop, withMode, hm, Mode.code]

theorem takeDeclareWebBreak_waking (hm : s.mode.mode = .waking) :
    takeDeclareWebBreak s = (s, Reply.refuse .busy) := by
  simp only [takeDeclareWebBreak, hm]

end

/-- Settles O36: cell by cell of the table of R125. -/
theorem modeRequestsWithoutEffect : Obligations.ModeRequestsWithoutEffect := by
  intro now port s hp
  have hexec {r t st data} := exec_request (t := t) (st := st) (data := data) hp now (r := r)
  refine ⟨fun hm => ⟨?_, ?_, ?_, ?_, ?_⟩, fun hm => ⟨?_, ?_, ?_, fun he => ?_⟩, fun hm => ?_, fun hm => ?_,
    fun hm => ?_, fun hm => ?_⟩
  · exact hexec (r := .enterStandby) (takeEnterStandby_waking hm)
  · exact hexec (r := .leaveStandby) (takeLeaveStandby_waking hm)
  · exact hexec (r := .start) (takeStart_waking hm)
  · exact hexec (r := .stop) (takeStop_waking hm)
  · exact hexec (r := .declareWebBreak) (takeDeclareWebBreak_waking hm)
  · exact hexec (r := .enterStandby) (takeEnterStandby_standby hm)
  · exact hexec (r := .start) (takeStart_standby hm)
  · exact hexec (r := .stop) (takeStop_standby hm)
  · exact hexec (r := .leaveStandby) (takeLeaveStandby_writing hm he)
  · have ha := Mode.active_iff.mpr hm
    exact ⟨hexec (r := .leaveStandby) (takeLeaveStandby_active ha),
      fun he => hexec (r := .enterStandby) (takeEnterStandby_writing ha he)⟩
  · exact hexec (r := .start) (takeStart_run hm)
  · exact hexec (r := .stop) (takeStop_setup hm)
  · exact hexec (r := .stop) (takeStop_drain hm)

/-! ## Set Lane Mask (R143) -/

section
variable {s : State} {set : Byte}

theorem takeSetLaneMask_standby (hm : s.mode.mode = .standby) :
    takeSetLaneMask set s = (s, Reply.refuse .standby) := by
  simp only [takeSetLaneMask, hm]

theorem takeSetLaneMask_waking (hm : s.mode.mode = .waking) : takeSetLaneMask set s = (s, Reply.refuse .busy) := by
  simp only [takeSetLaneMask, hm]

theorem takeSetLaneMask_refused (ha : s.mode.mode.active = true) {st : Status} (hr : s.maskRefusal set = some st) :
    takeSetLaneMask set s = (s, Reply.refuse st) := by
  obtain hm | hm | hm := Mode.active_iff.mp ha <;> simp only [takeSetLaneMask, hm, hr]

theorem takeSetLaneMask_ok (ha : s.mode.mode.active = true) (hr : s.maskRefusal set = none) :
    takeSetLaneMask set s = (s.setMode { s.mode with laneMask := laneSetOf set }, Reply.ok [set]) := by
  obtain hm | hm | hm := Mode.active_iff.mp ha <;> simp only [takeSetLaneMask, hm, hr]

theorem State.maskRefusal_outside (h : ∃ n, s.web.lanes ≤ n ∧ set.getLsbD n = true) :
    s.maskRefusal set = some .badValue := by
  obtain ⟨n, hn, hbit⟩ := h
  refine if_pos ?_
  rw [← Nat.not_lt, laneSet_lt_iff]
  exact fun hlt => absurd (hlt n hbit) (Nat.not_lt.mpr hn)

variable (hlt : ∀ n, set.getLsbD n = true → n < s.web.lanes)
include hlt

theorem State.maskRefusal_not_producing (hp : s.mode.mode.producing = false) : s.maskRefusal set = none := by
  rw [State.maskRefusal_eq, if_neg (Nat.not_le.mpr (laneSet_lt_iff.mpr hlt)), hp]
  rfl

variable (hp : s.mode.mode.producing = true)
include hp

theorem State.maskRefusal_empty (hset : set = 0) : s.maskRefusal set = some .badValue := by
  rw [State.maskRefusal_eq, if_neg (Nat.not_le.mpr (laneSet_lt_iff.mpr hlt)), hp, if_pos hset]
  rfl

/-- R143: with a set that is not empty, the last two checks decide. -/
theorem State.maskRefusal_added (hset : set ≠ 0) : s.maskRefusal set = s.lanesRefusal (s.addedLanes set) := by
  rw [State.maskRefusal_eq, if_neg (Nat.not_le.mpr (laneSet_lt_iff.mpr hlt)), hp, if_neg hset]
  rfl

end

/-- Settles O37: the checks in their order, and the mask of the set. -/
theorem setLaneMaskOutcome : Obligations.SetLaneMaskOutcome := by
  intro now port set s hp _ producing added
  have hexec {t st data} := exec_request (t := t) (st := st) (data := data) hp now (r := .setLaneMask set)
  refine ⟨fun hm => hexec (takeSetLaneMask_standby hm), fun hm => hexec (takeSetLaneMask_waking hm), fun ha => ?_⟩
  have ha : s.mode.mode.active = true := Mode.active_iff.mpr ha
  refine ⟨fun hout => hexec (takeSetLaneMask_refused ha (State.maskRefusal_outside hout)), fun hlt => ?_⟩
  have hmem {lane : Lane} : lane ∈ s.addedLanes set ↔ added lane :=
    State.mem_addedLanes.trans (and_iff_right_of_imp fun ⟨hbit, _⟩ => hlt _ hbit)
  have hchecks (hprod : producing) (hset : set ≠ 0) := State.maskRefusal_added hlt (Mode.producing_iff.mpr hprod) hset
  simp only [← hmem]
  refine ⟨fun hprod hset => ?_, ?_, fun hprod hset hvalid hnot => ?_, fun hpass => ?_⟩
  · exact hexec (takeSetLaneMask_refused ha (State.maskRefusal_empty hlt (Mode.producing_iff.mpr hprod) hset))
  · intro hprod hbad
    have hset : set ≠ 0 := by
      rintro rfl
      obtain ⟨lane, hl, -⟩ := hbad
      obtain ⟨-, hbit, -⟩ := State.mem_addedLanes.mp hl
      simp at hbit
    exact hexec (takeSetLaneMask_refused ha ((hchecks hprod hset).trans (State.lanesRefusal_recipeInvalid hbad)))
  · exact hexec (takeSetLaneMask_refused ha ((hchecks hprod hset).trans (State.lanesRefusal_notReady hvalid hnot)))
  · refine hexec (takeSetLaneMask_ok ha ?_)
    cases hprod : s.mode.mode.producing with
    | false => exact State.maskRefusal_not_producing hlt hprod
    | true =>
      have hrun := Mode.producing_iff.mp hprod
      obtain ⟨hset, hadded⟩ := hpass hrun
      exact (hchecks hrun hset).trans (State.lanesRefusal_eq_none_iff.mpr hadded)

/-! ## Read Line Status (R151, R182) -/

/-- R181: a set of lanes as the sum of its lanes' bits. -/
theorem laneSetCode_eq (q : Quad Bool) :
    laneSetCode q = BitVec.ofNat 8 ((lanesBelow 4).map fun lane => if q.get lane then 2 ^ lane.val else 0).sum := by
  obtain ⟨a, b, c, d⟩ := q
  revert a b c d
  decide

/-- R30: the PRODUCT records of the track, lane by lane. -/
theorem productCount_eq_sum (rows : Quad (List Record)) :
    productCount rows = ((lanesBelow 4).map fun lane => rowCount (rows.get lane)).sum := by
  show _ = rowCount rows.e0 + (rowCount rows.e1 + (rowCount rows.e2 + (rowCount rows.e3 + 0)))
  rw [productCount]
  omega

theorem Bank.map_toList {α β : Type} (b : Bank α) (f : α → β) :
    b.toList.map f = (List.finRange 16).map fun slot => f (b.get slot) := rfl

theorem State.laneStatus_eq (s : State) (lane : Lane) :
    s.laneStatus lane =
      match s.mode.assignments.get lane with
      | some slot => [1, byteOf slot.val, (s.acq.lanes.get lane).ready.code]
      | none => [0, 0, (s.acq.lanes.get lane).ready.code] := by
  unfold State.laneStatus
  cases s.mode.assignments.get lane <;> rfl

theorem boolByte_isSome {α : Type} [DecidableEq α] (o : Option α) : boolByte o.isSome = if o = none then 0 else 1 := by
  cases o <;> rfl

/-- Settles O40: part by part the layout of R182. -/
theorem readLineStatusReply : Obligations.ReadLineStatusReply := by
  intro now port s hp
  refine ⟨_, rfl, ?_⟩
  have hlanes : s.laneStatus = _ := funext s.laneStatus_eq
  rw [← productCount_eq_sum, ← laneSetCode_eq, ← boolByte_isSome]
  refine (exec_request hp now (r := .readLineStatus) rfl).trans ?_
  rw [hlanes, Bank.map_toList]
  rfl

/-! ## The deadline of a store write (R149, R161, R166) -/

theorem exec_storeWriteDeadline {s : State} (hr : s.resetHeld = false) (now : Time) :
    exec (.storeWriteDeadline now) s = .next (s.storeDeadline now) :=
  congrArg Host.Outcome.next (if_neg (by simp [hr]))

theorem State.storeDeadline_early {s : State} {w : StoreWrite} (he : s.store.engine = some w) {now : Time}
    (h : now < w.due) : s.storeDeadline now = s := by
  simp only [State.storeDeadline, he, Nat.not_le.mpr h, if_false]

theorem State.storeDeadline_due {s : State} {w : StoreWrite} (he : s.store.engine = some w) {now : Time}
    (h : w.due ≤ now) : s.storeDeadline now = s.abandonWrite w := by
  simp only [State.storeDeadline, he, h, if_true]

/-- Settles O48: before its time the deadline does nothing, and at it the write is abandoned. -/
theorem storeDeadlineAbandons : Obligations.StoreDeadlineAbandons := by
  intro now w s hr he
  have hexec := exec_storeWriteDeadline hr now
  refine ⟨fun h => ?_, fun h => ?_⟩
  · rw [hexec, State.storeDeadline_early he h]
  · intro timedOut
    refine ⟨fun slot contents ht => ?_, fun contents ht => ?_⟩ <;>
      rw [hexec, State.storeDeadline_due he h, State.abandonWrite, ht] <;> rfl

end Sys2Proof.Machine
end

section
/-! # Recipe slots in use

R163 as an invariant, and the contents of the recipe blocks. No effect brings a slot into use while it is being written
(`State.Effect.storeLaw`), and of all commands only the completion of a store write changes stored contents
(`exec_keepsContents`), at a slot that is not in use. -/

namespace Sys2Proof.Machine
open Sys2Proof

/-! ## The slots that records and assignments name -/

/-- The recipe that an identity carries is the record's. -/
theorem Record.identity_recipe (r : Record) : r.identity.2.map (·.2) = r.product?.map fun p => p.recipe := by
  cases r <;> rfl

section
variable {s t : State}

theorem State.storeLaw_iff : s.storeLaw ↔ ∀ slot, s.store.writingRecipe slot = true → ¬s.slotNamed slot := by
  simp only [State.storeLaw, ← slotInUse_iff, Bool.not_eq_true]

/-- R3: where the records keep their identities, each names the recipe that it named. -/
theorem sameIdentities.recipe {lane : Lane} {k : Nat} {p : Product} (h : sameIdentities s.web.rows t.web.rows)
    (hp : t.recordAt lane k = some (.product p)) :
    ∃ q, s.recordAt lane k = some (.product q) ∧ q.recipe = p.recipe := by
  have hi : (t.recordAt lane k).map Record.identity = (s.recordAt lane k).map Record.identity := by
    simpa [State.recordAt] using congrArg (·[k]?) (h lane)
  rw [hp, Option.map_some, eq_comm, Option.map_eq_some_iff] at hi
  obtain ⟨r, hr, hid⟩ := hi
  have hrecipe : r.product?.map (fun q => q.recipe) = some p.recipe := by
    rw [← Record.identity_recipe, hid]
    rfl
  obtain ⟨q, hq, hqp⟩ := Option.map_eq_some_iff.mp hrecipe
  rw [Record.product?_eq_some] at hq
  exact ⟨q, hq ▸ hr, hqp⟩

/-- R22: on a lost track assignments alone name a slot. -/
theorem State.slotNamed_of_untracked {slot : RecipeSlot} (hr : t.web.rows = untrackedRows t.web.lanes t.web.length)
    (hn : t.slotNamed slot) : ∃ lane : Lane, lane.val < t.web.lanes ∧ t.mode.assignments.get lane = some slot := by
  obtain ⟨lane, k, p, hp, -⟩ | hn := hn
  · have hserial := State.serialAt_eq_some.mpr ⟨p, hp, rfl⟩
    rw [State.serialAt_of_untracked hr] at hserial
    cases hserial
  · exact hn

/-- R19: an entry record names the recipe that its lane is assigned. -/
theorem WebTrack.entry_recipe {w : WebTrack} {m : ModeController} {lane : Lane} {p : Product}
    (h : w.entry m lane = .product p) : m.assignments.get lane = some p.recipe := by
  simp only [WebTrack.entry, entryRecord] at h
  split at h
  · cases ha : m.assignments.get lane with
    | none => simp [ha] at h
    | some recipe =>
      simp only [ha, Record.product.injEq] at h
      subst h
      rfl
  · cases h

/-- R18, R19: the shift brings no slot into use. -/
theorem State.shifted_slotNamed {slot : RecipeSlot} (now : Time) (h : (s.shifted now).slotNamed slot) :
    s.slotNamed slot := by
  obtain ⟨lane, k, p, hp, hslot⟩ | h := h
  · by_cases hl : lane.val < s.web.lanes
    · cases k with
      | zero =>
        rw [State.shifted_recordAt_zero now hl, Option.some.injEq] at hp
        exact .inr ⟨lane, hl, hslot ▸ WebTrack.entry_recipe hp⟩
      | succ k =>
        rw [State.recordAt, State.shifted_row now hl, List.getElem?_cons_succ, List.getElem?_dropLast] at hp
        split at hp
        · exact .inl ⟨lane, k, p, hp, hslot⟩
        · cases hp
    · have hrow : (s.shifted now).web.rows.get lane = s.web.rows.get lane := by simp [State.shifted_web, hl]
      rw [State.recordAt, hrow] at hp
      exact .inl ⟨lane, k, p, hp, hslot⟩
  · exact .inr h

/-! ## No slot being written comes into use -/

theorem State.storeLaw_of_idle (h : t.store.engine = none) : t.storeLaw := by
  intro slot hw
  obtain ⟨w, contents, he, -⟩ := RecipeStore.writingRecipe_iff.mp hw
  rw [h] at he
  cases he

/-- Where the write engine stays as it is and no slot comes into use, the law is kept. -/
theorem State.storeLaw_of_named (hs : s.storeLaw) (he : t.store.engine = s.store.engine)
    (hn : ∀ slot, t.slotNamed slot → s.slotNamed slot) : t.storeLaw := by
  rw [State.storeLaw_iff] at hs ⊢
  intro slot hw h
  refine hs slot ?_ (hn slot h)
  rw [RecipeStore.writingRecipe_iff] at hw ⊢
  rwa [he] at hw

/-- Records that keep their identities, and assignments and a write engine that stay as they are. -/
theorem State.storeLaw_of_keeps (hs : s.storeLaw) (hk : s.keepsTrack t) (hm : s.leavesModes t) : t.storeLaw := by
  refine State.storeLaw_of_named hs (by rw [hm.store]) fun slot hn => ?_
  obtain ⟨lane, k, p, hp, hslot⟩ | ⟨lane, hl, ha⟩ := hn
  · obtain ⟨q, hq, hqp⟩ := hk.rows.recipe hp
    exact .inl ⟨lane, k, q, hq, hqp.trans hslot⟩
  · rw [hm.lanes] at hl
    rw [hm.assignments] at ha
    exact .inr ⟨lane, hl, ha⟩

/-- R22: a lost track, with assignments and a write engine that stay as they are. -/
theorem State.storeLaw_of_untracked (hs : s.storeLaw) (hr : t.web.rows = untrackedRows t.web.lanes t.web.length)
    (hl : t.web.lanes = s.web.lanes) (ha : t.mode.assignments = s.mode.assignments)
    (he : t.store.engine = s.store.engine) : t.storeLaw :=
  State.storeLaw_of_named hs he fun _ hn => .inr (by simpa [hl, ha] using State.slotNamed_of_untracked hr hn)

theorem State.evaluateLanes_storeLaw (hs : s.storeLaw) (before : Nat) : (s.evaluateLanes before).storeLaw :=
  State.storeLaw_of_keeps hs (s.evaluateLanes_leaves before).keeps (s.evaluateLanes_leavesModes before)

theorem State.drainCheck_storeLaw (hs : s.storeLaw) : s.drainCheck.storeLaw :=
  State.storeLaw_of_keeps hs s.drainCheck_leaves.keeps s.drainCheck_leavesModes

/-- The shift, and then index work that changes neither identities nor assignments (R18, R19). -/
theorem State.index_storeLaw (hs : s.storeLaw) (now : Time) (cards : Quad Bool) :
    ((s.aborted now cards).gateIndex now).drainCheck.storeLaw := by
  have hshifted : (s.shifted now).storeLaw := State.storeLaw_of_named hs rfl fun _ hn => State.shifted_slotNamed now hn
  have hkeeps : (s.shifted now).keepsTrack (s.aborted now cards) :=
    (State.verdictIndex_keeps _ cards).trans (State.abortStroke_keeps _ now).1
  have hmodes : (s.shifted now).leavesModes (s.aborted now cards) := by
    have h := s.aborted_leavesModes now cards
    exact ⟨h.producing, h.configState, h.laneMask, h.assignments, h.lanes, h.store⟩
  refine State.drainCheck_storeLaw ?_
  exact State.storeLaw_of_keeps (State.storeLaw_of_keeps hshifted hkeeps hmodes) (State.gateIndex_leaves _ now).keeps
    (State.gateIndex_leavesModes _ now)

/-- R136, R137: a self-check leaves records and assignments as they were, or loses the track with no lane assigned. -/
theorem State.completeSelfCheck_storeLaw (hs : s.storeLaw) (now : Time) (w : Wake) (ref : RawCode) :
    (s.completeSelfCheck now w ref).storeLaw := by
  by_cases hv : s.store.config.verifiesTo configFault .valid
  · rw [State.completeSelfCheck_valid now w ref hv, State.woken_frame]
    exact hs
  · have hturned : (s.factoryTurned ref).storeLaw := by
      rw [State.storeLaw_iff]
      intro slot _ hn
      obtain ⟨lane, -, ha⟩ := State.slotNamed_of_untracked (t := s.factoryTurned ref) rfl hn
      have hnone : ((Quad.fill none).restrict 2 none).get lane = some slot := ha
      simp at hnone
    rw [State.completeSelfCheck_invalid hv]
    exact State.evaluateLanes_storeLaw hturned s.web.lanes

theorem State.completeWrite_storeLaw (s : State) (w : StoreWrite) : (s.completeWrite w).storeLaw := by
  cases ht : w.target with
  | recipe slot contents =>
    refine State.storeLaw_of_idle ?_
    simp only [State.completeWrite, ht]
    rfl
  | configuration contents =>
    rw [State.completeWrite_configuration s ht]
    exact State.evaluateLanes_storeLaw (State.storeLaw_of_idle rfl) s.web.lanes

theorem State.abandonWrite_storeLaw (s : State) (w : StoreWrite) : (s.abandonWrite w).storeLaw := by
  refine State.storeLaw_of_idle ?_
  unfold State.abandonWrite
  cases w.target <;> rfl

/-- R146: a slot that is being written is assigned to no lane. -/
theorem State.assign_storeLaw (hs : s.storeLaw) {lane : Lane} {recipe : Option RecipeSlot}
    (h : s.assignRefusal lane recipe = none) : (s.assign lane recipe).storeLaw := by
  obtain ⟨-, hsome⟩ := State.assignRefusal_eq_none h
  rw [State.storeLaw_iff] at hs ⊢
  rw [State.assign_frame]
  rintro slot hw (hrecord | ⟨n, hn, ha⟩)
  · exact hs slot hw (.inl hrecord)
  · have ha : (s.mode.assignments.set lane recipe).get n = some slot := ha
    rw [Quad.get_set] at ha
    split at ha
    · have hfree := (hsome slot ha).1
      have hw : s.store.writingRecipe slot = true := hw
      rw [hfree] at hw
      cases hw
    · exact hs slot hw (.inr ⟨n, hn, ha⟩)

/-- R162: the slot whose write is accepted is not in use. -/
theorem State.acceptRecipe_storeLaw {slot : RecipeSlot} (hu : s.slotInUse slot = false) (contents : RecipeWire)
    (now : Time) (port : Port) : (s.acceptWrite now port (.recipe slot contents)).storeLaw := by
  intro n hw
  obtain ⟨_, _, he, ht⟩ := RecipeStore.writingRecipe_iff.mp hw
  cases he
  cases ht
  exact hu

theorem State.acceptConfiguration_storeLaw (s : State) (contents : ConfigWire) (now : Time) (port : Port) :
    (s.acceptWrite now port (.configuration contents)).storeLaw := by
  intro n hw
  obtain ⟨_, _, he, ht⟩ := RecipeStore.writingRecipe_iff.mp hw
  cases he
  cases ht

/-- R163 across each effect. -/
theorem State.Effect.storeLaw (h : s.Effect t) (hs : s.storeLaw) : t.storeLaw := by
  cases h with
  | pending | ports | events | pulses | strokeStart | round | roundCap | masks | laneMask | waking | start => exact hs
  | rows h => exact State.storeLaw_of_keeps hs (State.setRows_keeps h) ⟨id, rfl, rfl, rfl, rfl, rfl⟩
  | index now cards => exact State.index_storeLaw hs now cards
  | indexFrozen | webBreak | webBreakRunning => exact State.storeLaw_of_untracked hs rfl rfl rfl rfl
  | strokeEnd now => exact State.storeLaw_of_keeps hs (s.endStroke_keeps ..).1 (s.endStroke_leavesModes ..)
  | idlePass temps =>
    exact State.storeLaw_of_keeps (t := s.idlePass temps) hs (s.idlePass_leaves temps).keeps (s.idlePass_leavesModes temps)
  | selfCheck now ref => exact State.completeSelfCheck_storeLaw hs now _ ref
  | written => exact s.completeWrite_storeLaw _
  | abandoned => exact s.abandonWrite_storeLaw _
  | reset => exact State.storeLaw_of_idle rfl
  | standby now => exact State.storeLaw_of_keeps hs (s.enterStandby_keeps now) (s.enterStandby_leavesModes now)
  | stop => exact State.drainCheck_storeLaw (s := s.changeMode .drain) hs
  | assign _ _ h => exact State.assign_storeLaw hs h
  | acceptRecipe now port _ _ hu => exact State.acceptRecipe_storeLaw hu _ now port
  | acceptConfiguration now port => exact s.acceptConfiguration_storeLaw _ now port

end

/-! ## What leaves stored contents alone -/

/-- From `s` to `t` every recipe block keeps its contents. -/
structure State.keepsContents (s t : State) : Prop where
  contents : ∀ slot, (t.store.recipes.get slot).contents = (s.store.recipes.get slot).contents

theorem State.keepsContents.refl (s : State) : s.keepsContents s := ⟨fun _ => rfl⟩

theorem State.keepsContents.trans {s t u : State} (h : s.keepsContents t) (h' : t.keepsContents u) :
    s.keepsContents u := ⟨fun slot => (h'.contents slot).trans (h.contents slot)⟩

theorem State.keepsContents_of_store {s t : State} (h : t.store = s.store) : s.keepsContents t :=
  ⟨fun slot => by rw [h]⟩

/-- A change of one block that keeps its contents (R158, R166). -/
theorem Bank.set_contents {recipes : Bank (Block RecipeWire)} {slot : RecipeSlot} {b : Block RecipeWire}
    (h : b.contents = (recipes.get slot).contents) (n : RecipeSlot) :
    ((recipes.set slot b).get n).contents = (recipes.get n).contents := by
  rw [Bank.get_set]
  split
  · rename_i hn
    rw [h, hn]
  · rfl

/-- A change of every block that keeps its contents (R158, R160). -/
theorem Bank.map_contents {f : Block RecipeWire → Block RecipeWire} (h : ∀ b, (f b).contents = b.contents)
    (recipes : Bank (Block RecipeWire)) (n : RecipeSlot) :
    ((recipes.map f).get n).contents = (recipes.get n).contents := by
  rw [Bank.get_map, h]

section
variable (s : State)

theorem State.acceptWrite_keepsContents (now : Time) (port : Port) (target : WriteTarget) :
    s.keepsContents (s.acceptWrite now port target) := by
  cases target with
  | configuration => exact ⟨fun _ => rfl⟩
  | recipe slot contents => exact ⟨Bank.set_contents (b := (s.store.recipes.get slot).accept) rfl⟩

/-- R166: an abandoned write leaves the contents that the block held. -/
theorem State.abandonWrite_keepsContents (w : StoreWrite) : s.keepsContents (s.abandonWrite w) := by
  unfold State.abandonWrite
  cases w.target with
  | configuration => exact ⟨fun _ => rfl⟩
  | recipe slot contents => exact ⟨Bank.set_contents (b := (s.store.recipes.get slot).abandoned) rfl⟩

theorem State.storeDeadline_keepsContents (now : Time) : s.keepsContents (s.storeDeadline now) := by
  unfold State.storeDeadline
  repeat' split
  · exact s.abandonWrite_keepsContents _
  all_goals exact .refl s

theorem State.afterReset_keepsContents (keep : Bool) (wake : Option Wake) :
    s.keepsContents (s.afterReset keep wake) :=
  ⟨Bank.map_contents (f := Block.afterReset) (fun _ => rfl) s.store.recipes⟩

/-- R160: verification judges the contents and leaves them as they are. -/
theorem State.completeSelfCheck_keepsContents (now : Time) (w : Wake) (ref : RawCode) :
    s.keepsContents (s.completeSelfCheck now w ref) := by
  have hverified : s.keepsContents (s.setStore s.store.verifyAll) :=
    ⟨Bank.map_contents (f := fun b => b.verify fun c => (recipeFault c).isNone) (fun _ => rfl) s.store.recipes⟩
  by_cases hv : s.store.config.verifiesTo configFault .valid
  · rw [State.completeSelfCheck_valid now w ref hv, State.woken_frame]
    exact ⟨hverified.contents⟩
  · have hlanes := (State.evaluateLanes_leavesModes (s.factoryTurned ref) s.web.lanes).store
    rw [State.completeSelfCheck_invalid hv]
    refine hverified.trans ⟨fun slot => ?_⟩
    show (((s.factoryTurned ref).evaluateLanes s.web.lanes).store.recipes.get slot).contents = _
    rw [hlanes]
    rfl

/-! ### Requests -/

theorem takeEnterStandby_keepsContents (now : Time) : s.keepsContents (takeEnterStandby now s).1 := by
  unfold takeEnterStandby withMode
  repeat' split
  any_goals exact ⟨fun _ => rfl⟩
  all_goals exact State.keepsContents_of_store (s.enterStandby_leavesModes now).store

theorem takeStop_keepsContents : s.keepsContents (takeStop s).1 := by
  unfold takeStop withMode
  split
  case h_4 => exact State.keepsContents_of_store (s.changeMode .drain).drainCheck_leavesModes.store
  all_goals exact ⟨fun _ => rfl⟩

theorem takeSetLaneRecipe_keepsContents (lane presence slot : Byte) :
    s.keepsContents (takeSetLaneRecipe lane presence slot s).1 := by
  unfold takeSetLaneRecipe
  repeat' split
  any_goals exact ⟨fun _ => rfl⟩
  rw [State.assign_frame]
  exact ⟨fun _ => rfl⟩

theorem takePostVerdict_keepsContents (port : Port) (station lane : Byte) (serial : Serial) (value detail : Byte) :
    s.keepsContents (takePostVerdict port station lane serial value detail s).1 := by
  simp only [takePostVerdict, postRecord]
  repeat' split
  all_goals exact ⟨fun _ => rfl⟩

theorem takeWriteConfiguration_keepsContents (now : Time) (port : Port) (contents : ConfigWire) :
    s.keepsContents (takeWriteConfiguration now port contents s).1 := by
  unfold takeWriteConfiguration
  repeat' split
  all_goals exact ⟨fun _ => rfl⟩

theorem takeWriteRecipe_keepsContents (now : Time) (port : Port) (slot : Byte) (contents : RecipeWire) :
    s.keepsContents (takeWriteRecipe now port slot contents s).1 := by
  unfold takeWriteRecipe
  repeat' split
  any_goals exact .refl s
  rename_i n _ _ _ _
  exact s.acceptWrite_keepsContents now port (.recipe n contents)

/-- R161: a request that writes a block is accepted with the block's contents as they were. -/
theorem takeRequest_keepsContents (now : Time) (port : Port) (r : Request) :
    s.keepsContents (takeRequest now port r s).1 := by
  have same {t : State} (h : t = s) : s.keepsContents t := State.keepsContents_of_store (congrArg State.store h)
  cases r with
  | identify | readLineStatus | resetPart | readEvents => exact ⟨fun _ => rfl⟩
  | readRecord lane slot => exact same (takeReadRecord_state s lane slot)
  | findSerial serial => exact same (takeFindSerial_state s serial)
  | readPlane lane selector => exact same (takeReadPlane_state s lane selector)
  | readStrokeReport => exact same (takeReadStrokeReport_state s)
  | readPlatens => exact same (takeReadPlatens_state s)
  | readDischargeLog first count => exact same (takeReadDischargeLog_state s first count)
  | readConfiguration => exact same (takeReadConfiguration_state s)
  | readRecipe slot => exact same (takeReadRecipe_state s slot)
  | readPortMask target => exact same (takeReadPortMask_state s target)
  | enterStandby => exact takeEnterStandby_keepsContents s now
  | stop => exact takeStop_keepsContents s
  | setLaneRecipe lane presence slot => exact takeSetLaneRecipe_keepsContents s lane presence slot
  | postVerdict station lane serial value detail => exact takePostVerdict_keepsContents s ..
  | writeConfiguration contents => exact takeWriteConfiguration_keepsContents s now port contents
  | writeRecipe slot contents => exact takeWriteRecipe_keepsContents s now port slot contents
  | leaveStandby | start | declareWebBreak | setLaneMask | setHold | clearHold | setEventEnable | setPortMask =>
    simp only [takeRequest, takeLeaveStandby, takeStart, takeDeclareWebBreak, takeSetLaneMask, takeSetHold, takeClearHold,
      holdRequest, takeSetEventEnable, takeSetPortMask]
    repeat' split
    all_goals exact ⟨fun _ => rfl⟩

theorem answerFrame_keepsContents (now : Time) (port : Port) (f : Frame) :
    s.keepsContents (answerFrame now port f s) := by
  unfold answerFrame
  split
  case h_4 r _ => exact ⟨(takeRequest_keepsContents s now port r).contents⟩
  all_goals exact ⟨fun _ => rfl⟩

theorem deliver_keepsContents {answer : State → State} (h : ∀ s : State, s.keepsContents (answer s)) (port : Port)
    (f : Frame) : s.keepsContents (deliver port f answer s) := by
  simp only [deliver]
  repeat' split
  case h_3 => exact ⟨(h (s.hunt port)).contents⟩
  all_goals exact ⟨fun _ => rfl⟩

theorem frameComplete_keepsContents (now : Time) (port : Port) (f : Frame) :
    s.keepsContents (frameComplete now port f s) :=
  deliver_keepsContents s (fun s => answerFrame_keepsContents s now port f) port f

theorem submit_keepsContents (now : Time) (port : Port) (r : Request) : s.keepsContents (submit now port r s) :=
  deliver_keepsContents (answer := answerRequest now port r) s 
    (fun s => ⟨(takeRequest_keepsContents s now port r).contents⟩) port r.frame

/-! ### Lines, timers and port events -/

theorem State.receiveByte_keepsContents (begun now : Time) (port : Port) (b : Byte) :
    s.keepsContents (s.receiveByte begun now port b) := by
  unfold State.receiveByte
  repeat' split
  case h_2 => exact frameComplete_keepsContents s ..
  all_goals exact ⟨fun _ => rfl⟩

theorem State.responseSent_keepsContents (now : Time) (port : Port) : s.keepsContents (s.responseSent now port) := by
  unfold State.responseSent State.answerHeld
  repeat' split
  any_goals exact ⟨fun _ => rfl⟩
  · exact s.afterReset_keepsContents true _
  · exact ⟨(answerFrame_keepsContents (State.setPorts _ _) ..).contents⟩

theorem State.indexEdge_keepsContents (now : Time) (cards : Quad Bool) :
    s.keepsContents (s.indexEdge now cards) := by
  unfold State.indexEdge
  split
  · rcases ha : s.mode.mode.active with _ | _
    · rw [State.takeIndex_inactive ha]
      exact ⟨fun _ => rfl⟩
    · rw [State.takeIndex_active ha]
      exact State.keepsContents_of_store (s.index_leavesModes now cards).store
  · exact ⟨fun _ => rfl⟩

theorem State.completeStroke_keepsContents (now : Time) : s.keepsContents (s.completeStroke now) := by
  unfold State.completeStroke
  split
  · exact State.keepsContents_of_store (s.endStroke_leavesModes ..).store
  · exact ⟨fun _ => rfl⟩

end

/-! ## The step -/

section
variable {s t : State}

/-- A line or timer command that keeps the contents when it acts keeps them also while the RESET line is held. -/
theorem State.keepsContents_of_unlessHeld {e : State}
    (h : (Host.Outcome.next (if s.resetHeld then s else e) : Answer) = .next t) (he : s.keepsContents e) :
    s.keepsContents t := by
  cases h
  split
  · exact ⟨fun _ => rfl⟩
  · exact he

/-- R165: the one command that changes stored contents is the completion of a store write. -/
theorem exec_keepsContents {c : Instr} (hc : ∀ now accepted, c ≠ .storeWriteCompletion now accepted)
    (h : exec c s = .next t) : s.keepsContents t := by
  cases c with
  | storeWriteCompletion now accepted => exact absurd rfl (hc now accepted)
  | indexEdge now cards => exact State.keepsContents_of_unlessHeld h (s.indexEdge_keepsContents now cards)
  | sealRisingEdge | round | roundCap =>
    refine State.keepsContents_of_unlessHeld h ?_
    beta_reduce
    repeat' split
    all_goals exact ⟨fun _ => rfl⟩
  | sealFallingEdge now => exact State.keepsContents_of_unlessHeld h (s.completeStroke_keepsContents now)
  | idlePass now temps =>
    refine State.keepsContents_of_unlessHeld h ?_
    beta_reduce
    repeat' split
    any_goals exact ⟨fun _ => rfl⟩
    exact State.keepsContents_of_store (s.idlePass_leavesModes temps).store
  | rejectPulseExpiry now lane =>
    refine State.keepsContents_of_unlessHeld h ?_
    simp only [State.expirePulse]
    repeat' split
    all_goals exact ⟨fun _ => rfl⟩
  | selfCheckExpiry now ref =>
    refine State.keepsContents_of_unlessHeld h ?_
    simp only [State.selfCheckExpiry]
    repeat' split
    any_goals exact ⟨fun _ => rfl⟩
    exact s.completeSelfCheck_keepsContents ..
  | storeWriteDeadline now => exact State.keepsContents_of_unlessHeld h (s.storeDeadline_keepsContents now)
  | powerOn now =>
    cases h
    exact s.afterReset_keepsContents false _
  | resetLineAssert now =>
    cases h
    exact ⟨(s.afterReset_keepsContents false none).contents⟩
  | resetLineRelease now =>
    cases h
    unfold State.releaseReset
    split
    · exact ⟨(s.afterReset_keepsContents false (some (resetWake now))).contents⟩
    · exact ⟨fun _ => rfl⟩
  | partResetTaken now port =>
    refine State.keepsContents_of_unlessHeld h ?_
    simp only [State.resetTaken]
    split
    · exact s.afterReset_keepsContents true _
    · exact ⟨fun _ => rfl⟩
  | responseSent now port => exact State.keepsContents_of_unlessHeld h (s.responseSent_keepsContents now port)
  | interByteGap now port => exact State.keepsContents_of_unlessHeld h ⟨fun _ => rfl⟩
  | badLenFrame begun now port len =>
    cases h
    exact s.receiveByte_keepsContents begun now port len
  | byteReceived begun now port byte stopOk =>
    cases h
    cases stopOk
    · exact ⟨fun _ => rfl⟩
    · exact s.receiveByte_keepsContents begun now port byte
  | frameHeld | lostFrame | badCheck | unknown =>
    cases h
    exact frameComplete_keepsContents s ..
  | _ =>
    cases h
    exact submit_keepsContents s ..

variable (hs : s.storeLaw) {slot : RecipeSlot} (hn : s.slotNamed slot)
include hs hn

/-- R163, R165: the slot whose contents a completed write replaces is not in use. -/
theorem State.completeWrite_contents {w : StoreWrite} (he : s.store.engine = some w) :
    ((s.completeWrite w).store.recipes.get slot).contents = (s.store.recipes.get slot).contents := by
  cases ht : w.target with
  | recipe n contents =>
    have hne : n ≠ slot := by
      rintro rfl
      exact State.storeLaw_iff.mp hs n (RecipeStore.writingRecipe_iff.mpr ⟨w, contents, he, ht⟩) hn
    simp only [State.completeWrite, ht]
    show ((s.store.recipes.set n (Block.written contents)).get slot).contents = _
    rw [Bank.get_set, if_neg hne]
  | configuration contents =>
    rw [State.completeWrite_configuration s ht, (State.evaluateLanes_leavesModes _ _).store]
    rfl

theorem exec_contents {c : Instr} (h : exec c s = .next t) :
    (t.store.recipes.get slot).contents = (s.store.recipes.get slot).contents := by
  by_cases hc : ∃ now accepted, c = .storeWriteCompletion now accepted
  · obtain ⟨now, accepted, rfl⟩ := hc
    cases h
    simp only [State.storeCompletion]
    repeat' split
    any_goals rfl
    exact State.completeWrite_contents hs hn ‹_›
  · exact (exec_keepsContents (fun now accepted he => hc ⟨now, accepted, he⟩) h).contents slot

end

/-- Settles O50: no effect brings a slot being written into use, and only the completion of a write, which is to a slot not
in use, changes contents. -/
theorem namedRecipeKeepsContents : Obligations.NamedRecipeKeepsContents := by
  intro s t hs h
  refine ⟨step_keeps (fun _ _ he hs => he.storeLaw hs) hs h, fun slot hn => ?_⟩
  unfold step at h
  split at h
  · cases h
    rfl
  · rename_i c rest _
    exact exec_contents (s := { s with pending := rest }) hs hn h

end Sys2Proof.Machine
end

section
/-! # Writing and reading the store

Write Recipe, Write Configuration and the two reads where they are refused and where they act, and the completion of a
recipe write. -/

namespace Sys2Proof.Machine
open Sys2Proof

/-! ## Write Recipe (R158, R161, R162, R163) -/

section
variable {s : State} {now : Time} {port : Port} {slot : Byte} {contents : RecipeWire}

theorem takeWriteRecipe_busy (h : s.mode.mode = .waking ∨ s.store.engine ≠ none) :
    takeWriteRecipe now port slot contents s = (s, Reply.refuse .busy) := by
  unfold takeWriteRecipe
  split
  · rfl
  · rename_i hm
    exact if_pos (Option.isSome_iff_ne_none.mpr (h.resolve_left hm))

variable (hm : s.mode.mode ≠ .waking) (he : s.store.engine = none)
include hm he

theorem takeWriteRecipe_badSlot (h : 16 ≤ slot.toNat) :
    takeWriteRecipe now port slot contents s = (s, Reply.badField 0) := by
  simp [takeWriteRecipe, hm, he, slotOf_eq_none h]

variable {n : RecipeSlot} (hn : slot.toNat = n.val)
include hn

theorem takeWriteRecipe_badField {k : Nat} (hf : recipeFault contents = some k) :
    takeWriteRecipe now port slot contents s = (s, Reply.badField k) := by
  simp [takeWriteRecipe, hm, he, slotOf_eq_some hn, hf]

/-- R163: with contents that pass, the write is refused for a slot in use, and accepted for any other. -/
theorem takeWriteRecipe_checked (hf : recipeFault contents = none) :
    takeWriteRecipe now port slot contents s =
      if s.slotInUse n then (s, Reply.refuse .inUse)
      else (s.acceptWrite now port (.recipe n contents), Reply.ok [slot]) := by
  simp [takeWriteRecipe, hm, he, slotOf_eq_some hn, hf]

end

/-- Settles O44: the checks in their order, and the write accepted. -/
theorem writeRecipeOutcome : Obligations.WriteRecipeOutcome := by
  intro now port slot contents s hp
  have hexec {t st data} := exec_request (t := t) (st := st) (data := data) hp now (r := .writeRecipe slot contents)
  refine ⟨fun h => hexec (takeWriteRecipe_busy h), fun hm he => ⟨fun h => hexec (takeWriteRecipe_badSlot hm he h), ?_⟩⟩
  intro n hn
  refine ⟨fun k hf => hexec (takeWriteRecipe_badField hm he hn hf), fun hf hu => hexec ?_, fun hf hu => hexec ?_⟩
  · exact (takeWriteRecipe_checked hm he hn hf).trans (if_pos (slotInUse_iff.mpr hu))
  · exact (takeWriteRecipe_checked hm he hn hf).trans (if_neg (mt slotInUse_iff.mp hu))

/-! ## Write Configuration (R158, R161, R164) -/

section
variable {s : State} {now : Time} {port : Port} {contents : ConfigWire}

theorem takeWriteConfiguration_waking (hm : s.mode.mode = .waking) :
    takeWriteConfiguration now port contents s = (s, Reply.refuse .busy) := if_pos hm

theorem takeWriteConfiguration_wrongMode (hm : s.mode.mode ≠ .waking) (hs : s.mode.mode ≠ .setup) :
    takeWriteConfiguration now port contents s = (s, Reply.refuse .wrongMode) := (if_neg hm).trans (if_pos hs)

/-- R164: in SETUP, the checks that follow the mode. -/
theorem takeWriteConfiguration_setup (hm : s.mode.mode = .setup) :
    takeWriteConfiguration now port contents s =
      if productCount s.web.rows ≠ 0 then (s, Reply.refuse .inUse)
      else if s.store.engine.isSome then (s, Reply.refuse .busy)
      else ((configFault contents).map fun k => (s, Reply.badField k)).getD
        (s.acceptWrite now port (.configuration contents), Reply.ok []) := by
  simp only [takeWriteConfiguration, hm, reduceCtorEq, ne_eq, not_true_eq_false, if_false]
  cases configFault contents <;> rfl

variable (hm : s.mode.mode = .setup)
include hm

theorem takeWriteConfiguration_inUse (hp : ¬s.noProduct) :
    takeWriteConfiguration now port contents s = (s, Reply.refuse .inUse) :=
  (takeWriteConfiguration_setup hm).trans (if_pos (mt productCount_eq_zero.mp hp))

variable (hp : s.noProduct)
include hp

theorem takeWriteConfiguration_busy (he : s.store.engine ≠ none) :
    takeWriteConfiguration now port contents s = (s, Reply.refuse .busy) := by
  rw [takeWriteConfiguration_setup hm, if_neg (not_not.mpr (productCount_eq_zero.mpr hp)),
    if_pos (Option.isSome_iff_ne_none.mpr he)]

variable (he : s.store.engine = none)
include he

theorem takeWriteConfiguration_badItem {k : Nat} (hf : configFault contents = some k) :
    takeWriteConfiguration now port contents s = (s, Reply.badField k) := by
  simp [takeWriteConfiguration_setup hm, productCount_eq_zero.mpr hp, he, hf]

theorem takeWriteConfiguration_ok (hf : configFault contents = none) :
    takeWriteConfiguration now port contents s =
      (s.acceptWrite now port (.configuration contents), Reply.ok []) := by
  simp [takeWriteConfiguration_setup hm, productCount_eq_zero.mpr hp, he, hf]

end

/-- Settles O45: the checks in their order, and the write accepted. -/
theorem writeConfigurationOutcome : Obligations.WriteConfigurationOutcome := by
  intro now port contents s hp
  have hexec {t st data} := exec_request (t := t) (st := st) (data := data) hp now (r := .writeConfiguration contents)
  exact ⟨fun hm => hexec (takeWriteConfiguration_waking hm),
    fun hm hs => hexec (takeWriteConfiguration_wrongMode hm hs),
    fun hm hn => hexec (takeWriteConfiguration_inUse hm hn),
    fun hm hn he => hexec (takeWriteConfiguration_busy hm hn he),
    fun hm hn he => ⟨fun k hf => hexec (takeWriteConfiguration_badItem hm hn he hf),
      fun hf => hexec (takeWriteConfiguration_ok hm hn he hf)⟩⟩

/-! ## Reading blocks (R169, R170) -/

/-- R169, R170: a block that is VALID and has contents shows them. -/
theorem Block.shown_of_valid {α : Type} {b : Block α} (h : b.state = .valid) : b.shown = b.contents := if_pos h

/-- R169, R170: a block that is not VALID, or has no contents, shows none. -/
theorem Block.shown_eq_none {α : Type} {b : Block α} (h : ∀ c, b.state = .valid → b.contents = some c → False) :
    b.shown = none := by
  by_cases hv : b.state = .valid
  · rw [Block.shown_of_valid hv]
    exact Option.eq_none_iff_forall_ne_some.mpr fun c => h c hv
  · exact if_neg hv

/-- A mark with the meaning of a test is carried as the test is. -/
theorem boolByte_of_iff {mark test : Bool} {p : Prop} (h : mark = true ↔ p) (h' : test = true ↔ p) :
    boolByte test = if mark then 1 else 0 := by
  rw [Bool.eq_iff_iff.mpr (h.trans h'.symm)]
  rfl

section
variable {s : State} {slot : Byte}

theorem takeReadRecipe_waking (hm : s.mode.mode = .waking) :
    takeReadRecipe slot s = (s, Reply.refuse .busy) := if_pos hm

theorem takeReadRecipe_badValue (hm : s.mode.mode ≠ .waking) (h : 16 ≤ slot.toNat) :
    takeReadRecipe slot s = (s, Reply.refuse .badValue) := by
  simp [takeReadRecipe, hm, slotOf_eq_none h]

theorem takeReadRecipe_ok (hm : s.mode.mode ≠ .waking) {n : RecipeSlot} (hn : slot.toNat = n.val) :
    takeReadRecipe slot s =
      (s, Reply.ok
        ([(s.store.recipes.get n).state.code, boolByte (s.store.writingRecipe n), boolByte (s.slotInUse n)] ++
          ((s.store.recipes.get n).shown.map RecipeWire.bytes).getD (List.replicate 32 0))) := by
  simp only [takeReadRecipe, hm, if_false, slotOf_eq_some hn]

theorem takeReadConfiguration_waking (hm : s.mode.mode = .waking) :
    takeReadConfiguration s = (s, Reply.refuse .busy) := if_pos hm

theorem takeReadConfiguration_ok (hm : s.mode.mode ≠ .waking) :
    takeReadConfiguration s =
      (s, Reply.ok
        ([s.store.config.state.code, boolByte s.store.writingConfiguration] ++
          (s.store.config.shown.map ConfigWire.bytes).getD (List.replicate 85 0))) := if_neg hm

end

/-- Settles O49: the state, the marks and the contents shown, for a recipe and for the configuration. -/
theorem storeReads : Obligations.StoreReads := by
  intro now port s hp
  have hrecipe {slot t st data} := exec_request (t := t) (st := st) (data := data) hp now (r := .readRecipe slot)
  have hconfig {t st data} := exec_request (t := t) (st := st) (data := data) hp now (r := .readConfiguration)
  refine ⟨fun hm slot => ⟨hrecipe (takeReadRecipe_waking hm), hconfig (takeReadConfiguration_waking hm)⟩, fun hm =>
    ⟨fun slot h => hrecipe (takeReadRecipe_badValue hm h), fun slot n written inUse hn hw hu => ?_, fun written hw => ?_⟩⟩
  · refine (hrecipe (takeReadRecipe_ok hm hn)).trans ?_
    rw [boolByte_of_iff hw RecipeStore.writingRecipe_iff, boolByte_of_iff hu slotInUse_iff]
    congr 3
    split
    · rename_i hv hc
      rw [Block.shown_of_valid hv, hc]
      rfl
    · rename_i hv
      rw [Block.shown_eq_none hv]
      rfl
  · refine (hconfig (takeReadConfiguration_ok hm)).trans ?_
    rw [boolByte_of_iff hw RecipeStore.writingConfiguration_iff]
    congr 3
    split
    · rename_i hv hc
      rw [Block.shown_of_valid hv, hc]
      rfl
    · rename_i hv
      rw [Block.shown_eq_none hv]
      rfl

/-! ## The completion of a recipe write (R161, R165, R166) -/

section
variable {s : State} {now accepted : Time}

/-- R166: a completion that is not that of the write in flight changes nothing. -/
theorem exec_storeWriteCompletion_other (hr : s.resetHeld = false)
    (h : ∀ w, s.store.engine = some w → w.accepted ≠ accepted) :
    exec (.storeWriteCompletion now accepted) s = .next s := by
  have hother : s.storeCompletion now accepted = s := by
    unfold State.storeCompletion
    split
    · rename_i w he
      exact if_neg fun ⟨ha, _⟩ => h w he ha
    · rfl
  show execStoreWriteCompletion now accepted s = _
  simp [execStoreWriteCompletion, State.unlessHeld, hr, hother]

end

/-- Settles O46: the block written, the engine idle, and STORE_DONE with its result. -/
theorem recipeWriteCompletes : Obligations.RecipeWriteCompletes := by
  intro now accepted s hr
  refine ⟨fun he => exec_storeWriteCompletion_other hr (by simp [he]), fun w he ha => ?_, ?_⟩
  · refine exec_storeWriteCompletion_other hr fun w' he' => ?_
    rw [he, Option.some.injEq] at he'
    exact he' ▸ ha
  · rintro w slot contents he rfl ht hn hd
    rw [exec_storeWriteCompletion hr he (by rw [ht]; exact hn) hd, State.completeWrite, ht]
    rfl

end Sys2Proof.Machine
end

section
/-! # What the bytes of a block stand for

The checks of recipes and configurations item by item (R152, R154, R155), and the 32 and 85 bytes of the two blocks offset
by offset (R181, R182). A block's bytes are read back by `recipeAt` and `configAt`, so that the number at an offset is the
field that those readers take from there. -/

namespace Sys2Proof.Machine
open Sys2Proof

/-! ## Checks by number -/

/-- A property of the numbers from 1 up to a bound, the first of them apart. -/
theorem forall_number_succ {ok : Nat → Prop} {n : Nat} :
    (∀ k, 1 ≤ k → k ≤ n + 1 → ok k) ↔ ok 1 ∧ ∀ k, 1 ≤ k → k ≤ n → ok (k + 1) := by
  refine ⟨fun h => ⟨h 1 (by omega) (by omega), fun k hk hn => h (k + 1) (by omega) (by omega)⟩, ?_⟩
  rintro ⟨h1, h⟩ (_ | _ | k) hk hn
  · omega
  · exact h1
  · exact h (k + 1) (by omega) (by omega)

/-- A list of checks whose place says the number of what each checks: the first to fail names the first number that is
not met, and none fails when every number is met. -/
theorem firstFailing_spec {l : List Bool} {ok : Nat → Prop} (h : ∀ k b, l[k]? = some b → (b = true ↔ ok (k + 1))) :
    (firstFailing l = none ↔ ∀ k, 1 ≤ k → k ≤ l.length → ok k) ∧
      ∀ k, firstFailing l = some k ↔ 1 ≤ k ∧ k ≤ l.length ∧ ¬ok k ∧ ∀ j, 1 ≤ j → j < k → ok j := by
  induction l generalizing ok with
  | nil =>
    simp only [firstFailing, List.length_nil, true_iff, reduceCtorEq, false_iff]
    exact ⟨fun k h1 h0 => by omega, fun k ⟨h1, h0, _⟩ => by omega⟩
  | cons b l ih =>
    have hb : b = true ↔ ok 1 := h 0 b rfl
    obtain ⟨hnone, hsome⟩ := ih (ok := fun k => ok (k + 1)) fun k b hk => h (k + 1) b (by simpa using hk)
    rw [List.length_cons, forall_number_succ]
    cases b with
    | false =>
      have h1 : ¬ok 1 := fun hok => absurd (hb.mpr hok) (by decide)
      refine ⟨by simp [firstFailing, h1], fun k => ?_⟩
      obtain _ | _ | k := k
      · simp [firstFailing]
      · exact ⟨fun _ => ⟨Nat.le_refl _, by omega, h1, fun j _ _ => by omega⟩, fun _ => rfl⟩
      · simp [firstFailing, forall_number_succ, h1]
    | true =>
      have h1 : ok 1 := hb.mp rfl
      refine ⟨by simp [firstFailing, hnone, h1], fun k => ?_⟩
      obtain _ | _ | k := k
      · simp [firstFailing]
      · simp [firstFailing, hsome, h1]
      · simp [firstFailing, hsome, forall_number_succ, h1]

theorem within_iff {lo hi n : Nat} : within lo hi n = true ↔ lo ≤ n ∧ n ≤ hi := by simp [within]

/-! ### Recipes (R152) -/

/-- R152: no nonzero position follows a 0. -/
theorem zerosTrail_iff {l : List Byte} :
    zerosTrail l = true ↔ ∀ i j, i < j → j < l.length → l[i]? = some 0 → l[j]? = some 0 := by
  induction l with
  | nil => simp [zerosTrail]
  | cons c l ih =>
    rw [zerosTrail]
    split
    · rename_i hc
      simp only [List.all_eq_true, beq_iff_eq]
      constructor
      · intro hall i j hij hj _
        cases j with
        | zero => omega
        | succ j =>
          have hj : j < l.length := by simpa using hj
          rw [List.getElem?_cons_succ, List.getElem?_eq_getElem hj, hall _ (List.getElem_mem hj)]
      · intro h b hb
        obtain ⟨j, hj, rfl⟩ := List.getElem_of_mem hb
        have h0 := h 0 (j + 1) (by omega) (by simpa using hj) (by rw [hc]; rfl)
        simpa [hj] using h0
    · rename_i hc
      rw [ih]
      constructor
      · intro h i j hij hj hi
        cases i with
        | zero => exact absurd (by simpa using hi) hc
        | succ i =>
          cases j with
          | zero => omega
          | succ j => exact h i j (by omega) (by simpa using hj) (by simpa using hi)
      · intro h i j hij hj hi
        simpa using h (i + 1) (j + 1) (by omega) (by simpa using hj) (by simpa using hi)

theorem nameChar_iff (c : Byte) : nameChar c = true ↔ c = 0 ∨ (0x20 ≤ c.toNat ∧ c.toNat ≤ 0x7E) := by
  rw [nameChar, Bool.or_eq_true, within_iff, beq_iff_eq]
  exact or_congr_left ⟨fun h => BitVec.eq_of_toNat_eq h, fun h => by rw [h]; rfl⟩

/-- R152, field 1. -/
theorem nameOk_iff (n : NameWire) :
    nameOk n = true ↔ n.first.e0 ≠ 0 ∧ (∀ c ∈ n.chars, c = 0 ∨ (0x20 ≤ c.toNat ∧ c.toNat ≤ 0x7E)) ∧
      ∀ i j, i < j → j < 12 → n.chars[i]? = some 0 → n.chars[j]? = some 0 := by
  have hlen : n.chars.length = 12 := rfl
  simp only [nameOk, Bool.and_eq_true, List.all_eq_true, nameChar_iff, zerosTrail_iff, hlen, bne_iff_ne, and_assoc]

/-- R152, field 3: a set of the six stations. -/
theorem stationSet_iff (b : Byte) : b.toNat < 64 ↔ b.getLsbD 6 = false ∧ b.getLsbD 7 = false := by
  revert b
  decide

theorem recipeChecks_iff {r : RecipeWire} {k : Nat} {b : Bool} (h : (recipeChecks r)[k]? = some b) :
    b = true ↔ r.fieldOk (k + 1) := by
  have hk : k < 11 := (List.getElem?_eq_some_iff.mp h).1
  interval_cases k <;> obtain rfl := Option.some.inj h
  · exact nameOk_iff r.name
  · exact within_iff
  · exact decide_eq_true_iff.trans (stationSet_iff r.required)
  · exact within_iff
  · exact within_iff
  · exact within_iff
  · exact within_iff.trans (and_iff_right (Nat.zero_le _))
  · exact within_iff
  · exact within_iff
  · exact within_iff.trans (and_iff_right (Nat.zero_le _))
  · exact within_iff

/-! ### Configurations (R154, R155) -/

theorem enabled_iff (b : Byte) : b.toNat ≤ 1 ↔ b = 0 ∨ b = 1 := by
  revert b
  decide

theorem optionalPortOk_iff (b : Byte) : optionalPortOk b = true ↔ b.toNat ≤ 3 ∨ b = 0xFF := by
  simp only [optionalPortOk, Bool.or_eq_true, decide_eq_true_eq, beq_iff_eq, Nat.lt_succ_iff]

theorem assignmentOk_iff (b : Byte) : assignmentOk b = true ↔ b.toNat ≤ 15 ∨ b = 0xFF := by
  simp only [assignmentOk, Bool.or_eq_true, decide_eq_true_eq, beq_iff_eq, Nat.lt_succ_iff]

/-- R154: the flags of a set are bits 0 to 9. -/
theorem eventSetOk_iff (w : BitVec 16) : eventSetOk w = true ↔ w.extractLsb' 10 6 = 0 := by
  have hw := w.isLt
  rw [eventSetOk, decide_eq_true_iff, ← BitVec.toNat_inj, BitVec.extractLsb'_toNat, Nat.shiftRight_eq_div_pow]
  show w.toNat < 1024 ↔ w.toNat / 2 ^ 10 % 2 ^ 6 = 0
  omega

theorem entryRangeOk_iff {length : Nat} {e : StationWire} :
    entryRangeOk length e = true ↔ (e.enabled = 0 ∨ e.enabled = 1) ∧ e.slot.toNat < length := by
  simp only [entryRangeOk, Bool.and_eq_true, decide_eq_true_eq, enabled_iff]

/-- R155: the placement of a station is asked of an enabled entry alone. -/
theorem placement_iff {b : Byte} (h : b = 0 ∨ b = 1) {p : Prop} [Decidable p] :
    (b.toNat == 0 || decide p) = true ↔ (b = 1 → p) := by
  obtain rfl | rfl := h <;> simp

theorem windowedEntryOk_iff {length : Nat} {e : StationWire} :
    windowedEntryOk length e = true ↔ e.windowedOk length := by
  simp only [windowedEntryOk, StationWire.windowedOk, Bool.and_eq_true, entryRangeOk_iff, within_iff, optionalPortOk_iff,
    and_assoc]
  refine and_congr_right fun he => ?_
  rw [placement_iff he]

theorem cardEntryOk_iff {length : Nat} {e : StationWire} :
    cardEntryOk length e = true ↔
      (e.enabled = 0 ∨ e.enabled = 1) ∧ e.slot.toNat < length ∧ e.window = 0 ∧ e.port = 0xFF ∧
        (e.enabled = 1 → e.slot.toNat + 2 ≤ length) := by
  simp only [cardEntryOk, Bool.and_eq_true, entryRangeOk_iff, beq_iff_eq, and_assoc]
  refine and_congr_right fun he => ?_
  rw [placement_iff he]

theorem sealEntryOk_iff {length : Nat} {e : StationWire} :
    sealEntryOk length e = true ↔
      (e.enabled = 0 ∨ e.enabled = 1) ∧ e.slot.toNat < length ∧ e.window = 0 ∧ (e.port.toNat ≤ 3 ∨ e.port = 0xFF) ∧
        (e.enabled = 1 → e.slot.toNat + 3 ≤ length) := by
  simp only [sealEntryOk, Bool.and_eq_true, entryRangeOk_iff, beq_iff_eq, optionalPortOk_iff, and_assoc]
  refine and_congr_right fun he => ?_
  rw [placement_iff he]

/-- R154, item 12: a mask byte has no bit 2, 3 or 7. -/
theorem masksOk_iff (masks : Quad (Quad Byte)) :
    (masks.all fun q => q.all maskByteOk) = true ↔ ∀ port lane, let b := (masks.get port).get lane
      b.getLsbD 2 = false ∧ b.getLsbD 3 = false ∧ b.getLsbD 7 = false := by
  simp only [Quad.all_iff, maskByteOk_iff, not_or, Bool.not_eq_true]

/-- R62, R154, item 17. -/
theorem calibrationOk_iff (c : ConfigWire) : calibrationOk c = true ↔ c.itemOk 17 := by
  simp only [calibrationOk, ConfigWire.itemOk, Bool.and_eq_true, Quad.all_iff, baseOk, spanOk, decide_eq_true_eq, within_iff,
    Nat.zero_le, true_and, and_assoc]

theorem configChecks_iff {c : ConfigWire} {k : Nat} {b : Bool} (h : (configChecks c)[k]? = some b) :
    b = true ↔ c.itemOk (k + 1) := by
  have hk : k < 18 := (List.getElem?_eq_some_iff.mp h).1
  interval_cases k <;> obtain rfl := Option.some.inj h
  · exact within_iff
  · exact within_iff
  · exact within_iff
  · exact within_iff
  · exact windowedEntryOk_iff
  · exact windowedEntryOk_iff
  · exact cardEntryOk_iff
  · exact sealEntryOk_iff
  · exact windowedEntryOk_iff
  · exact windowedEntryOk_iff
  · exact optionalPortOk_iff _
  · exact masksOk_iff _
  · simp only [Quad.all_iff, eventSetOk_iff, ConfigWire.itemOk]
  · simp only [Quad.all_iff, decide_eq_true_eq, ConfigWire.itemOk]
  · exact decide_eq_true_iff.trans laneSet_lt_iff
  · simp only [Quad.all_iff, assignmentOk_iff, ConfigWire.itemOk]
  · exact calibrationOk_iff c
  · exact decide_eq_true_iff

/-! ## The blocks' bytes (R181, R182) -/

/-- R182: the eleven fields of a recipe are read back from its 32 bytes. -/
theorem recipeAt_bytes (r : RecipeWire) : recipeAt r.bytes 0 = r := by
  unfold RecipeWire.bytes
  simp only [NameWire.chars, Quad.toList, le16, le24, List.cons_append, List.nil_append]
  simp only [recipeAt, quadAt, wordAt, tripleAt, byteAt, Nat.zero_add, Nat.reduceAdd]
  simp only [List.getD_cons_zero, List.getD_cons_succ, join16_extract, join24_extract]

/-- R182: the eighteen items of a configuration are read back from its 85 bytes. -/
theorem configAt_bytes (c : ConfigWire) : configAt c.bytes 0 = c := by
  unfold ConfigWire.bytes
  simp only [Quad.toList, StationWire.bytes, le16, List.cons_append, List.nil_append]
  simp only [configAt, quadWordAt, wordAt, quadAt, stationAt, byteAt, Nat.zero_add, Nat.reduceAdd]
  simp only [List.getD_cons_zero, List.getD_cons_succ, join16_extract]

theorem quadAt_get (l : List Byte) (k : Nat) (i : Fin 4) : (quadAt l k).get i = byteAt l (k + i.val) := by
  fin_cases i <;> rfl

theorem quadWordAt_get (l : List Byte) (k : Nat) (i : Fin 4) : (quadWordAt l k).get i = wordAt l (k + 2 * i.val) := by
  fin_cases i <;> rfl

/-- R182, item 12: the masks, by port and then lane. -/
theorem configAt_masks_get (l : List Byte) (port lane : Fin 4) :
    ((configAt l 0).masks.get port).get lane = byteAt l (30 + 4 * port.val + lane.val) := by
  rw [← quadAt_get]
  fin_cases port <;> rfl

/-! ### Ports, slots, stations and codes -/

/-- R181: an optional port is carried as its number, or as 0xFF for none. -/
def portReads (port : Option Port) (b : Byte) : Prop :=
  (port = none ↔ b = 0xFF) ∧ ∀ p : Port, port = some p ↔ b.toNat = p.val

/-- R181: a recipe slot out of 16 is read from a byte as a port out of 4 is. -/
theorem optional_reads {n : Nat} [NeZero n] (hn : n < 255) {b : Byte} (h : b.toNat < n ∨ b = 0xFF) :
    let read : Option (Fin n) := if b.toNat < n then some (Fin.ofNat n b.toNat) else none
    (read = none ↔ b = 0xFF) ∧ ∀ i : Fin n, read = some i ↔ b.toNat = i.val := by
  intro read
  obtain hlt | rfl := h
  · have hread : read = some (Fin.ofNat n b.toNat) := if_pos hlt
    rw [hread]
    refine ⟨⟨nofun, fun hb => ?_⟩, fun i => ?_⟩
    · rw [hb] at hlt
      exact absurd (hlt.trans hn) (by decide)
    · rw [Option.some.injEq, Fin.ext_iff, Fin.val_ofNat, Nat.mod_eq_of_lt hlt]
  · have h255 : (0xFF : Byte).toNat = 255 := rfl
    have hread : read = none := if_neg (by omega)
    rw [hread]
    exact ⟨by simp, fun i => ⟨nofun, fun hi => by omega⟩⟩

theorem optionalPortOf_reads {b : Byte} (h : b.toNat ≤ 3 ∨ b = 0xFF) : portReads (optionalPortOf b) b :=
  optional_reads (n := 4) (by decide) (h.imp_left Nat.lt_succ_of_le)

theorem optionalSlotOf_reads {b : Byte} (h : b.toNat ≤ 15 ∨ b = 0xFF) :
    (optionalSlotOf b = none ↔ b = 0xFF) ∧ ∀ slot : RecipeSlot, optionalSlotOf b = some slot ↔ b.toNat = slot.val :=
  optional_reads (n := 16) (by decide) (h.imp_left Nat.lt_succ_of_le)

/-- R182: what a station entry's four bytes stand for. -/
def StationEntry.reads (e : StationEntry) (w : StationWire) : Prop :=
  (e.enabled = true ↔ w.enabled = 1) ∧ (e.enabled = false ↔ w.enabled = 0) ∧ e.slot = w.slot.toNat ∧
    e.window = w.window.toNat ∧ portReads e.port w.port

theorem stationEntryOf_reads {w : StationWire} (he : w.enabled = 0 ∨ w.enabled = 1)
    (hp : w.port.toNat ≤ 3 ∨ w.port = 0xFF) : (stationEntryOf w).reads w := by
  refine ⟨beq_iff_eq, ?_, rfl, rfl, optionalPortOf_reads hp⟩
  show (w.enabled == 1) = false ↔ w.enabled = 0
  obtain he | he := he <;> simp [he]

theorem windowedOk_reads {w : StationWire} {length : Nat} (h : w.windowedOk length) : (stationEntryOf w).reads w := by
  obtain ⟨he, -, -, -, hp, -⟩ := h
  exact stationEntryOf_reads he hp

/-- R171, R181. -/
theorem baudOf_mem {b : Byte} (h : b.toNat ≤ 3) :
    (baudOf b, b) ∈ ([(.b57600, 0), (.b115200, 1), (.b230400, 2), (.b460800, 3)] : List (Baud × Byte)) := by
  revert b
  decide

/-- R161, R181. -/
theorem deadlineOf_mem {b : Byte} (h : b.toNat ≤ 3) :
    (deadlineOf b, b) ∈ ([(10, 0), (20, 1), (40, 2), (80, 3)] : List (Nat × Byte)) := by
  revert b
  decide

/-- R154, item 13: cut to the ten flags, a set keeps every bit it has. -/
theorem setWidth_flags {w : BitVec 16} (h : w.extractLsb' 10 6 = 0) (n : Nat) :
    (w.setWidth 10).getLsbD n = w.getLsbD n := by
  rw [BitVec.getLsbD_setWidth]
  by_cases hn : n < 10
  · simp [hn]
  · have hflags : w.toNat < 2 ^ 10 := of_decide_eq_true ((eventSetOk_iff w).mpr h)
    have hw : w.toNat < 2 ^ n := hflags.trans_le (Nat.pow_le_pow_right Nat.two_pos (Nat.not_lt.mp hn))
    simp [hn, BitVec.getLsbD, Nat.testBit_lt_two_pow hw]

/-! ### What a configuration stands for, lane by lane and port by port -/

section
variable (c : ConfigWire)

theorem configurationOf_masks_get (port : Port) (lane : Lane) :
    ((configurationOf c).masks.get port).get lane = fieldMaskOf ((c.masks.get port).get lane) := by
  simp [configurationOf]

theorem configurationOf_enables_get (port : Port) :
    (configurationOf c).enables.get port = (c.enables.get port).setWidth 10 := Quad.get_map ..

theorem configurationOf_bauds_get (port : Port) : (configurationOf c).bauds.get port = baudOf (c.bauds.get port) :=
  Quad.get_map ..

theorem configurationOf_assignments_get (lane : Lane) :
    (configurationOf c).assignments.get lane = optionalSlotOf (c.assignments.get lane) := Quad.get_map ..

theorem configurationOf_calibration_get (lane : Lane) :
    (configurationOf c).calibration.lanes.get lane =
      { base := (c.base.get lane).toInt, span := (c.span.get lane).toNat } := Quad.get_zipWith ..

end

/-! ## The recipe of a slot (R153) -/

theorem RecipeStore.recipe_of_valid {r : RecipeStore} {slot : RecipeSlot} (h : (r.recipes.get slot).state = .valid) :
    r.recipe slot = (r.recipes.get slot).contents.map recipeOfWire := if_pos (beq_iff_eq.mpr h)

theorem RecipeStore.recipe_of_not_valid {r : RecipeStore} {slot : RecipeSlot}
    (h : (r.recipes.get slot).state ≠ .valid) : r.recipe slot = none := if_neg (mt beq_iff_eq.mp h)

/-- Settles O43: the checks by number, a recipe while its block is VALID, and the two blocks offset by offset. -/
theorem contentsChecks : Obligations.ContentsChecks := by
  have hrecipe (r : RecipeWire) := firstFailing_spec (l := recipeChecks r) (ok := r.fieldOk) fun _ _ => recipeChecks_iff
  have hconfig (c : ConfigWire) := firstFailing_spec (l := configChecks c) (ok := c.itemOk) fun _ _ => configChecks_iff
  refine ⟨hrecipe, hconfig, fun r slot w hw => ⟨fun hv => ?_, RecipeStore.recipe_of_not_valid⟩, fun s lane =>
    ⟨fun ha => ?_, fun slot ha => ?_⟩, fun r => ⟨r.bytes_length, rfl, ?_⟩, fun c hf => ⟨c.bytes_length, ?_⟩⟩
  · rw [RecipeStore.recipe_of_valid hv, hw]
    rfl
  · simp only [State.assignedRecipe, ha]
  · simp only [State.assignedRecipe, ha]
  · have hread := recipeAt_bytes r
    generalize r.bytes = l at hread
    subst hread
    exact ⟨rfl, rfl, rfl, rfl⟩
  · have hok := (hconfig c).1.mp hf
    have item (k : Nat) (h1 : 1 ≤ k) (h18 : k ≤ 18) : c.itemOk k := hok k h1 h18
    have hread := configAt_bytes c
    generalize c.bytes = l at hread
    subst hread
    obtain ⟨hcard, -, -, hcardPort, -⟩ := item 7 (by decide) (by decide)
    obtain ⟨hseal, -, -, hsealPort, -⟩ := item 8 (by decide) (by decide)
    have henables := item 13 (by decide) (by decide)
    have hbauds := item 14 (by decide) (by decide)
    have hassignments := item 16 (by decide) (by decide)
    refine ⟨rfl, rfl, rfl, rfl, windowedOk_reads (item 5 (by decide) (by decide)),
      windowedOk_reads (item 6 (by decide) (by decide)), stationEntryOf_reads hcard (.inr hcardPort),
      stationEntryOf_reads hseal hsealPort, windowedOk_reads (item 9 (by decide) (by decide)),
      windowedOk_reads (item 10 (by decide) (by decide)), optionalPortOf_reads (item 11 (by decide) (by decide)),
      fun port lane => ?_, fun port => ⟨fun n => ?_, ?_⟩, fun lane => ⟨?_, and_assoc.mp ⟨?_, ?_, ?_⟩⟩, rfl, rfl, rfl,
      deadlineOf_mem (item 18 (by decide) (by decide))⟩
    · rw [configurationOf_masks_get, configAt_masks_get]
      rfl
    · rw [configurationOf_enables_get, setWidth_flags (henables port)]
      exact congrArg (·.getLsbD n) (quadWordAt_get l 46 port)
    · rw [configurationOf_bauds_get, ← quadAt_get l 54 port]
      exact baudOf_mem (hbauds port)
    · exact laneSetOf_get ..
    · rw [configurationOf_assignments_get, ← quadAt_get l 59 lane]
      exact optionalSlotOf_reads (hassignments lane)
    · rw [configurationOf_calibration_get]
      exact congrArg BitVec.toInt (quadWordAt_get l 63 lane)
    · rw [configurationOf_calibration_get]
      exact congrArg BitVec.toNat (quadWordAt_get l 71 lane)

end Sys2Proof.Machine
end

section
/-! # The receiver and the transmitter of a port

A character changes a port's receiver or completes a frame, and a frame that completes is lost, held or answered
(`deliver_lost`, `deliver_hold`, `deliver_answer`). What it brings about does not turn on what the receiver held before it
(`deliver_receiving`). -/

namespace Sys2Proof.Machine
open Sys2Proof

theorem Quad.set_set {α : Type} (q : Quad α) (i : Fin 4) (a b : α) : (q.set i a).set i b = q.set i b := by
  fin_cases i <;> rfl

/-! ## One port changed -/

/-- The state with one port as given. -/
def State.setPort (s : State) (port : Port) (p : StationPort) : State := s.setPorts (s.ports.set port p)

section
variable (s : State) (port : Port)

@[simp] theorem State.setPort_port (p : StationPort) : (s.setPort port p).ports.get port = p := Quad.get_set_self ..

@[simp] theorem State.setPort_setPort (p p' : StationPort) :
    (s.setPort port p).setPort port p' = s.setPort port p' := by
  simp only [State.setPort, State.setPorts_ports, Quad.set_set]
  rfl

theorem State.setPorts_modify (f : StationPort → StationPort) :
    s.setPorts (s.ports.modify port f) = s.setPort port (f (s.ports.get port)) := rfl

theorem State.setPort_self {p : StationPort} (h : s.ports.get port = p) : s.setPort port p = s := by
  subst h
  have hset : s.ports.set port (s.ports.get port) = s.ports := by
    apply Quad.ext_get
    intro i
    rw [Quad.get_set]
    split
    · rename_i h
      rw [h]
    · rfl
  rw [State.setPort, hset]
  rfl

/-- The state with a port's receiver as given. -/
def State.receiving (r : Receiver) : State := s.setPort port { s.ports.get port with receiver := r }

theorem State.receiving_self {r : Receiver} (h : (s.ports.get port).receiver = r) : s.receiving port r = s :=
  s.setPort_self port (by rw [← h])

theorem State.hunt_eq : s.hunt port = s.receiving port .hunting := rfl

end

/-! ## A frame completes (R177, R178) -/

section
variable {s : State} {port : Port}

/-- R177: a frame that completes while one is held is lost. -/
theorem deliver_lost {held : Frame} (hr : s.resetHeld = false) (hh : (s.ports.get port).held = some held) (f : Frame)
    (answer : State → State) :
    deliver port f answer s = s.setPort port { s.ports.get port with receiver := .hunting, lost := true } := by
  simp [deliver, hr, State.hunt_eq, State.receiving, State.setPorts_modify, hh]

/-- R177: a frame that completes behind a response is held. -/
theorem deliver_hold {r : Response} (hr : s.resetHeld = false) (hs : (s.ports.get port).sending = some r)
    (hh : (s.ports.get port).held = none) (f : Frame) (answer : State → State) :
    deliver port f answer s = s.setPort port { s.ports.get port with receiver := .hunting, held := some f } := by
  simp [deliver, hr, State.hunt_eq, State.receiving, State.setPorts_modify, hh, hs]

/-- R177: a frame that completes on an idle port is answered at once. -/
theorem deliver_answer (h : s.portIdle port) (f : Frame) (answer : State → State) :
    deliver port f answer s = answer (s.hunt port) := by
  obtain ⟨hr, hs, hh⟩ := h
  simp [deliver, hr, State.hunt_eq, State.receiving, hh, hs]

/-- R173: what a frame's completion brings about does not turn on what the receiver held. -/
theorem deliver_receiving (hr : s.resetHeld = false) (r : Receiver) (f : Frame) (answer : State → State) :
    deliver port f answer (s.receiving port r) = deliver port f answer s := by
  have hhunt : (s.receiving port r).hunt port = s.hunt port := by
    simp [State.hunt_eq, State.receiving]
  have hr' : (s.receiving port r).resetHeld = false := hr
  simp only [deliver, hhunt, hr, hr', Bool.false_eq_true, if_false]

/-! ## A response ends (R171, R177) -/

/-- R171, R177: the state with a port's transmitter idle at the receiver's baud, and no frame in its hold. -/
def State.transmitterIdle (s : State) (port : Port) : State :=
  s.setPort port { s.ports.get port with sending := none, held := none, txBaud := (s.ports.get port).rxBaud }

theorem State.responseSent_of_idle (hs : (s.ports.get port).sending = none) (now : Time) :
    s.responseSent now port = s := by
  simp only [State.responseSent, hs]

/-- R177: with no frame held the transmitter falls idle. -/
theorem State.responseSent_of_no_frame {r : Response} (hs : (s.ports.get port).sending = some r)
    (ha : r.announcesReset = false) (hh : (s.ports.get port).held = none) (now : Time) :
    s.responseSent now port = s.transmitterIdle port := by
  simp [State.responseSent, hs, ha, State.answerHeld, State.setPorts_modify, StationPort.sent, hh,
    State.transmitterIdle]

/-- R177: a held frame is judged and answered once the transmitter is idle. -/
theorem State.responseSent_of_frame {r : Response} (hs : (s.ports.get port).sending = some r)
    (ha : r.announcesReset = false) {f : Frame} (hh : (s.ports.get port).held = some f) (now : Time) :
    s.responseSent now port = answerFrame now port f (s.transmitterIdle port) := by
  simp [State.responseSent, hs, ha, State.answerHeld, State.setPorts_modify, StationPort.sent, hh,
    State.transmitterIdle]

end

/-! ## Characters received (R173, R174) -/

section
variable {s : State} {port : Port}

/-- R173: a character that completes no frame changes the receiver alone. -/
theorem exec_byteReceived_of_state {begun now : Time} {b : Byte} {r : Receiver} (hr : s.resetHeld = false)
    (h : receive (s.ports.get port).receiver begun now b = .state r) :
    exec (.byteReceived begun now port b true) s = .next (s.receiving port r) := by
  show Host.Outcome.next (s.receiveByte begun now port b) = _
  simp only [State.receiveByte, hr, h, Bool.false_eq_true, if_false]
  rfl

theorem exec_byteReceived_of_complete {begun now : Time} {b : Byte} {f : Frame} (hr : s.resetHeld = false)
    (h : receive (s.ports.get port).receiver begun now b = .complete f) :
    exec (.byteReceived begun now port b true) s = .next (frameComplete now port f s) := by
  show Host.Outcome.next (s.receiveByte begun now port b) = _
  simp only [State.receiveByte, hr, h, Bool.false_eq_true, if_false]

theorem huntByte_of_ne {b : Byte} (h : b ≠ 0xA5) (now : Time) : huntByte now b = .hunting := if_neg h

variable {bytes : List Byte} {last begun now : Time} {b : Byte}

/-- R174: a character that begins more than 10 ms after the last byte meets a new hunt. -/
theorem receive_after_gap (h : last + ms 10 < begun) :
    receive (.inFrame bytes last) begun now b = .state (huntByte now b) := by
  simp [receive, gapPassed, h]

/-- R174: a character that begins 10 ms after the last byte or sooner belongs to the frame. -/
theorem receive_in_frame (h : begun ≤ last + ms 10) :
    receive (.inFrame bytes last) begun now b = frameByte now bytes b := by
  simp [receive, gapPassed, Nat.not_lt.mpr h]

/-- R173: a LEN of 1..120 opens a frame's body. -/
theorem frameByte_good_len {len : Byte} (h1 : 1 ≤ len.toNat) (h120 : len.toNat ≤ 120) :
    frameByte now [] len = .state (.inFrame [len] now) := if_pos (within_iff.mpr ⟨h1, h120⟩)

/-- R173: any other LEN is the first byte of the next hunt. -/
theorem frameByte_bad_len {len : Byte} (h : ¬(1 ≤ len.toNat ∧ len.toNat ≤ 120)) :
    frameByte now [] len = .state (huntByte now len) := if_neg (mt within_iff.mp h)

/-- R173: a byte before the CHECK's place is kept. -/
theorem frameByte_body {len : Byte} (h : bytes.length < len.toNat) :
    frameByte now (len :: bytes) b = .state (.inFrame (len :: (bytes ++ [b])) now) := if_pos h

/-- R173: the byte in the CHECK's place completes the frame. -/
theorem frameByte_check {len code : Byte} {params : List Byte} (h : params.length + 1 = len.toNat) :
    frameByte now (len :: code :: params) b = .complete { code := code, params := params, check := b } :=
  if_neg (by simp [h])

/-- R174: INTER_BYTE_GAP works on the receiver alone. -/
theorem exec_interByteGap (hr : s.resetHeld = false) (now : Time) :
    exec (.interByteGap now port) s = .next (s.receiving port ((s.ports.get port).receiver.gap now)) :=
  congrArg Host.Outcome.next (if_neg (by simp [hr]))

end

/-- Settles O53: the receiver meets each character in HUNTING, in LEN's place or after a gap. -/
theorem receiverRules : Obligations.ReceiverRules := by
  intro port s hr receiving
  have hexec {begun now : Time} {b : Byte} {r : Receiver}
      (h : receive (s.ports.get port).receiver begun now b = .state r) :
      exec (.byteReceived begun now port b true) s = .next (receiving r) :=
    exec_byteReceived_of_state hr h
  have hgap (now : Time) : exec (.interByteGap now port) s = _ := exec_interByteGap hr now
  refine ⟨fun _ _ _ => rfl, fun hh => ⟨fun begun now b hb => ?_, fun begun now => ?_, fun now => ?_⟩,
    fun bytes last hh => ⟨fun begun now b hlt => ?_, fun now hlt => ?_, fun now hle => ?_⟩,
    fun last begun now len hh hle => ⟨fun h1 h120 => ?_, fun hlen => ?_⟩⟩
  · rw [hexec (r := .hunting) (by rw [hh]; exact congrArg Reception.state (huntByte_of_ne hb now))]
    exact congrArg Host.Outcome.next (s.receiving_self port hh)
  · exact hexec (by rw [hh]; rfl)
  · rw [hgap, hh]
    exact congrArg Host.Outcome.next (s.receiving_self port hh)
  · exact hexec (by rw [hh]; exact receive_after_gap hlt)
  · rw [hgap, hh]
    simp only [Receiver.gap, gapPassed, hlt, decide_true, if_true]
    rfl
  · rw [hgap, hh]
    simp only [Receiver.gap, gapPassed, Nat.not_lt.mpr hle, decide_false, Bool.false_eq_true, if_false]
    exact congrArg Host.Outcome.next (s.receiving_self port hh)
  · exact hexec (by rw [hh, receive_in_frame hle, frameByte_good_len h1 h120])
  · have hbad : ¬(1 ≤ len.toNat ∧ len.toNat ≤ 120) := by
      rintro ⟨h1, h120⟩
      rcases hlen with rfl | hlen
      · exact absurd h1 (by decide)
      · omega
    exact hexec (by rw [hh, receive_in_frame hle, frameByte_bad_len hbad]; rfl)

/-! ## A frame received byte by byte -/

/-- The commands by which bytes arrive on a port one after the other. -/
def byteCommands (port : Port) (begun ended : Nat → Time) (l : List Byte) : List Instr :=
  l.mapIdx fun i b => .byteReceived (begun i) (ended i) port b true

theorem byteCommands_cons (port : Port) (begun ended : Nat → Time) (b : Byte) (l : List Byte) :
    byteCommands port begun ended (b :: l) =
      .byteReceived (begun 0) (ended 0) port b true ::
        byteCommands port (fun i => begun (i + 1)) (fun i => ended (i + 1)) l := List.mapIdx_cons

/-- The state with the queue as given. -/
def State.queued (s : State) (l : List Instr) : State := { s with pending := l }

/-- A run takes the command at the front of the queue first. -/
theorem run_succ {s t : State} {c : Instr} {rest : List Instr} (h : exec c (s.queued rest) = .next t) (n : Nat) :
    Host.Core.run Sys2Proof.core (n + 1) (s.queued (c :: rest)) = Host.Core.run Sys2Proof.core n t := by
  have hstep : Sys2Proof.core.step (s.queued (c :: rest)) = .next t := h
  simp only [Host.Core.run, hstep]

section
variable {s : State} {port : Port} {begun ended : Nat → Time} {b : Byte}

/-- The run takes a character that leaves the receiver within a frame. -/
theorem run_byte {r : Receiver} (hr : s.resetHeld = false)
    (h : receive (s.ports.get port).receiver (begun 0) (ended 0) b = .state r) (n : Nat) (l : List Byte) :
    Host.Core.run Sys2Proof.core (n + 1) (s.queued (byteCommands port begun ended (b :: l))) =
      Host.Core.run Sys2Proof.core n
        ((s.receiving port r).queued (byteCommands port (fun i => begun (i + 1)) (fun i => ended (i + 1)) l)) := by
  rw [byteCommands_cons]
  refine run_succ ?_ n
  apply exec_byteReceived_of_state
  · exact hr
  · exact h

/-- The run takes the character that completes a frame. -/
theorem run_check {f : Frame} (hr : s.resetHeld = false)
    (h : receive (s.ports.get port).receiver (begun 0) (ended 0) b = .complete f) :
    Host.Core.run Sys2Proof.core 1 (s.queued (byteCommands port begun ended [b])) =
      .next (frameComplete (ended 0) port f (s.queued [])) := by
  rw [byteCommands_cons]
  refine run_succ ?_ 0
  apply exec_byteReceived_of_complete
  · exact hr
  · exact h

/-- R173: the bytes of a frame from within its body to its CHECK. -/
theorem run_body {len code check : Byte} {params : List Byte} (hlen : params.length + 1 = len.toNat)
    (rest : List Byte) {got : List Byte} {last : Time} (hr : s.resetHeld = false)
    (hrecv : (s.ports.get port).receiver = .inFrame (len :: got) last) (hbegun : begun 0 ≤ last + ms 10)
    (hgaps : ∀ i, begun (i + 1) ≤ ended i + ms 10) (hbody : got ++ rest = code :: params) :
    Host.Core.run Sys2Proof.core (rest.length + 1)
        (s.queued (byteCommands port begun ended (rest ++ [check]))) =
      .next (frameComplete (ended rest.length) port { code := code, params := params, check := check }
        (s.queued [])) := by
  induction rest generalizing got begun ended last s with
  | nil =>
    rw [List.append_nil] at hbody
    subst hbody
    exact run_check hr (by rw [hrecv, receive_in_frame hbegun, frameByte_check hlen])
  | cons b rest ih =>
    have hroom : got.length < len.toNat := by
      have := congrArg List.length hbody
      simp only [List.length_append, List.length_cons] at this
      omega
    have h : receive (s.ports.get port).receiver (begun 0) (ended 0) b =
        .state (.inFrame (len :: (got ++ [b])) (ended 0)) := by
      rw [hrecv, receive_in_frame hbegun, frameByte_body hroom]
    rw [List.cons_append, List.length_cons, run_byte hr h,
      ih (s := s.receiving port _) hr (congrArg StationPort.receiver (State.setPort_port ..)) (hgaps 0)
        (fun i => hgaps (i + 1)) (by simpa using hbody)]
    exact congrArg Host.Outcome.next (deliver_receiving (s := s.queued []) hr _ _ _)

end

/-- Settles O52: SYNC and LEN open the frame, its body is gathered, and the CHECK completes it. -/
theorem frameReceivedByteByByte : Obligations.FrameReceivedByteByByte := by
  intro port f begun ended s hr hh hparams hgaps
  have hlen : f.params.length + 1 = f.len.toNat := by
    simp only [Frame.len, BitVec.toNat_ofNat]
    omega
  have hsync : receive (s.ports.get port).receiver (begun 0) (ended 0) 0xA5 = .state (.inFrame [] (ended 0)) := by
    rw [hh]
    rfl
  have hopen : receive ((s.receiving port (.inFrame [] (ended 0))).ports.get port).receiver (begun 1) (ended 1) f.len =
      .state (.inFrame [f.len] (ended 1)) := by
    rw [State.receiving, State.setPort_port, receive_in_frame (hgaps 0), frameByte_good_len] <;> omega
  have hbody := run_body (s := (s.receiving port (.inFrame [] (ended 0))).receiving port (.inFrame [f.len] (ended 1)))
    (begun := fun i => begun (i + 2)) (ended := fun i => ended (i + 2)) (check := f.check) hlen (f.code :: f.params)
    (got := []) hr (congrArg StationPort.receiver (State.setPort_port ..)) (hgaps 1) (fun i => hgaps (i + 2)) rfl
  have hrun := (run_byte hr hsync _ _).trans ((run_byte (s := s.receiving port _) hr hopen _ _).trans hbody)
  have hcount : f.bytes.length = (f.code :: f.params).length + 1 + 1 + 1 := by simp [Frame.bytes]
  rw [hcount]
  refine hrun.trans (congrArg Host.Outcome.next ?_)
  have hfirst := deliver_receiving (s := s.queued []) (port := port) hr (.inFrame [] (ended 0))
  have hsecond := deliver_receiving (s := (s.queued []).receiving port (.inFrame [] (ended 0))) (port := port) hr
    (.inFrame [f.len] (ended 1))
  exact (hsecond _ _).trans (hfirst _ _)

end Sys2Proof.Machine
end

section
/-! # Frames: the code table, and what completes on a port

The code table read both ways (`requestLen_code`, `requestOf_code`) judges a request's frame as that request, and judging
says what an idle port answers. -/

namespace Sys2Proof.Machine
open Sys2Proof

/-! ## The code table (R182) -/

theorem requestLen_code (r : Request) : requestLen r.code = some (r.params.length + 1) := by
  cases r with
  | writeConfiguration contents =>
    rw [Request.params, contents.bytes_length]
    rfl
  | writeRecipe slot contents =>
    rw [Request.params, List.length_cons, contents.bytes_length]
    rfl
  | _ => rfl

/-- R181, R182: a request's parameters are read back at the offsets that the table gives them. -/
theorem requestOf_code (r : Request) : requestOf r.code r.params = some r := by
  cases r with
  | writeConfiguration contents =>
    have hread (l : List Byte) : requestOf 0x48 l = some (.writeConfiguration (configAt l 0)) := rfl
    exact (hread _).trans (congrArg (some ∘ Request.writeConfiguration) (configAt_bytes contents))
  | writeRecipe slot contents =>
    have hread (l : List Byte) : requestOf 0x4A (slot :: l) = some (.writeRecipe slot (recipeAt l 0)) := rfl
    exact (hread _).trans (congrArg (some ∘ Request.writeRecipe slot) (recipeAt_bytes contents))
  | postVerdict station lane serial value detail =>
    exact congrArg (fun n => some (Request.postVerdict station lane n value detail)) (join24_extract serial)
  | setHold lane serial => exact congrArg (some ∘ Request.setHold lane) (join24_extract serial)
  | clearHold lane serial => exact congrArg (some ∘ Request.clearHold lane) (join24_extract serial)
  | findSerial serial => exact congrArg (some ∘ Request.findSerial) (join24_extract serial)
  | readDischargeLog first count =>
    exact congrArg (fun n => some (Request.readDischargeLog n count)) (join32_extract first)
  | setEventEnable set => exact congrArg (some ∘ Request.setEventEnable) (join16_extract set)
  | _ => rfl

theorem code_of_requestOf {code : Byte} {params : List Byte} {r : Request} (h : requestOf code params = some r) :
    r.code = code := by
  unfold requestOf at h
  split at h
  case h_28 => cases h
  all_goals
    rename_i hcode
    cases h
    exact BitVec.eq_of_toNat_eq hcode.symm

/-- R182: the table gives a LEN to no code but those that it reads. -/
theorem requestLen_of_requestOf_none {code : Byte} {params : List Byte} (h : requestOf code params = none) :
    requestLen code = none := by
  unfold requestOf at h
  split at h
  case h_28 =>
    unfold requestLen
    split
    case h_28 => rfl
    all_goals contradiction
  all_goals cases h

theorem requestLen_eq_none {code : Byte} (h : ∀ r : Request, r.code ≠ code) : requestLen code = none :=
  requestLen_of_requestOf_none (params := [])
    (Option.eq_none_iff_forall_ne_some.mpr fun r hr => h r (code_of_requestOf hr))

/-! ## Judging (R176) -/

theorem judge_of_bad_check {f : Frame} (h : f.check ≠ crc8 (f.len :: f.code :: f.params)) : judge f = .badCheck :=
  if_neg (by simpa [Frame.checkGood, Frame.computedCheck] using h)

theorem judge_good_unknown {code : Byte} (h : requestLen code = none) (params : List Byte) :
    judge (Frame.good code params) = .unknown code := by
  rw [judge, if_pos (Frame.good_checkGood ..)]
  simp only [Frame.good, h]

theorem judge_good_badLength {r : Request} {params : List Byte} (h : params.length ≠ r.params.length) :
    judge (Frame.good r.code params) = .badLength r.code := by
  rw [judge, if_pos (Frame.good_checkGood ..)]
  simp only [Frame.good, requestLen_code, Nat.add_right_cancel_iff, h, if_false]

theorem judge_frame (r : Request) : judge r.frame = .request r := by
  rw [judge, Request.frame, if_pos (Frame.good_checkGood ..)]
  simp only [Frame.good, requestLen_code, requestOf_code, if_true]

/-- Settles O51: the check is good, and the table read back gives the request. -/
theorem requestFramesJudgedAsSent : Obligations.RequestFramesJudgedAsSent := judge_frame

/-! ## What an idle port answers (R176) -/

section
variable {s : State} {port : Port}

/-- R177: a response without data that a port begins once its receiver hunts again. -/
theorem respond_hunt (s : State) (port : Port) (code : Byte) (st : Status) :
    respond port code (s.hunt port, Reply.refuse st) = s.answering port code st [] := by
  show (s.hunt port).setPorts ((s.hunt port).ports.modify port _) = _
  rw [State.setPorts_modify, State.hunt_eq, State.receiving, State.setPort_setPort, State.setPort_port]
  simp only [State.buildResponse, PortEvents.attention, bne, beq_eq_decide, State.setPort_port, ← decide_not]
  rfl

theorem frameComplete_idle (h : s.portIdle port) (now : Time) (f : Frame) :
    frameComplete now port f s = answerFrame now port f (s.hunt port) := deliver_answer h f _

end

/-- Settles O55: the frame is judged on the idle port, and a request's frame is taken as its command is. -/
theorem framesJudgedInOrder : Obligations.FramesJudgedInOrder := by
  intro now port s hp
  have hcomplete (f : Frame) : frameComplete now port f s = _ := frameComplete_idle hp now f
  refine ⟨fun f hf => ?_, fun code params hcode => ?_, fun r params hlen => ?_, fun r => ?_⟩
  · refine congrArg Host.Outcome.next ((hcomplete f).trans ?_)
    rw [answerFrame, judge_of_bad_check hf]
    exact respond_hunt ..
  · refine congrArg Host.Outcome.next ((hcomplete _).trans ?_)
    rw [answerFrame, judge_good_unknown (requestLen_eq_none hcode)]
    exact respond_hunt ..
  · rw [hcomplete, answerFrame, judge_good_badLength hlen]
    exact respond_hunt ..
  · have hsubmit : submit now port r s = _ := deliver_answer hp r.frame (answerRequest now port r)
    rw [hcomplete, hsubmit, answerFrame, judge_frame]

/-! ## What a busy port does (R177, R184) -/

/-- Settles O54: the three outcomes of a frame's completion, and the end of a response. -/
theorem framesTakenInTurn : Obligations.FramesTakenInTurn := by
  intro now port s hr p
  have hsent : exec (.responseSent now port) s = .next (s.responseSent now port) :=
    congrArg Host.Outcome.next (if_neg (by simp [hr]))
  refine ⟨fun f response hs hh => ?_, fun f held hh => ?_, fun r response hs hh => ?_, fun r held hh => ?_,
    fun response hs hreset => ⟨fun hh => ?_, fun f hh => ?_⟩, fun hs => ?_⟩
  · exact congrArg Host.Outcome.next (deliver_hold hr hs hh f _)
  · exact congrArg Host.Outcome.next (deliver_lost hr hh f _)
  · rw [exec_command]
    exact congrArg Host.Outcome.next (deliver_hold hr hs hh r.frame _)
  · rw [exec_command]
    exact congrArg Host.Outcome.next (deliver_lost hr hh r.frame _)
  · rw [hsent, State.responseSent_of_no_frame hs (by simpa [Response.announcesReset] using hreset) hh]
    rfl
  · rw [hsent, State.responseSent_of_frame hs (by simpa [Response.announcesReset] using hreset) hh]
    rfl
  · rw [hsent, State.responseSent_of_idle hs]

/-! ## Identify (R183) -/

theorem byteOf_succ_ne_zero (n : Fin 255) : byteOf (n.val + 1) ≠ 0 := by
  intro h
  have hzero : (n.val + 1) % 256 = 0 := congrArg BitVec.toNat h
  omega

/-- Settles O58: the revision is the part's own constant, and the state is answered as it stands. -/
theorem identifyReply : Obligations.IdentifyReply :=
  ⟨byteOf (Config.revisionLessOne.val + 1), byteOf_succ_ne_zero _, fun now _ _ hp =>
    exec_command_idle hp now .identify⟩

end Sys2Proof.Machine
end

section
/-! # Wire layouts (R185, R186, R187)

A log entry is a fixed part, the causes padded to seven bytes, and the dose; the other layouts are read as they stand. -/

namespace Sys2Proof.Machine
open Sys2Proof

/-- R181: two presence bits in a byte. -/
theorem presenceBits (a b : Bool) :
    (boolByte a ||| boolByte b <<< 1).getLsbD 0 = a ∧ (boolByte a ||| boolByte b <<< 1).getLsbD 1 = b ∧
      boolByte a ||| boolByte b <<< 1 ≤ 3 := by
  revert a b
  decide

/-- R181: three presence bits in a byte. -/
theorem presenceBits3 (a b c : Bool) :
    (boolByte a ||| boolByte b <<< 1 ||| boolByte c <<< 2).getLsbD 0 = a ∧
      (boolByte a ||| boolByte b <<< 1 ||| boolByte c <<< 2).getLsbD 1 = b ∧
      (boolByte a ||| boolByte b <<< 1 ||| boolByte c <<< 2).getLsbD 2 = c ∧
      boolByte a ||| boolByte b <<< 1 ||| boolByte c <<< 2 ≤ 7 := by
  revert a b c
  decide

/-- R181: the three bytes of a dose. -/
theorem nat24_eq (n : Nat) : nat24 n = [byteOf n, byteOf (n / 256), byteOf (n / 65536)] := by
  have hbyte (k : Nat) (hk : k ≤ 16) : (BitVec.ofNat 24 n).extractLsb' k 8 = byteOf (n / 2 ^ k) := by
    apply BitVec.eq_of_getLsbD_eq
    intro i hi
    have hlt : k + i < 24 := by omega
    simp only [byteOf, BitVec.getLsbD_extractLsb', BitVec.getLsbD_ofNat, hi, hlt, decide_true, Bool.true_and,
      Nat.testBit_div_two_pow, Nat.add_comm]
  rw [nat24, le24, hbyte 0 (by decide), hbyte 8 (by decide), hbyte 16 (by decide), Nat.pow_zero, Nat.div_one]
  rfl

/-- R114, R186: the cause list of an entry, padded with zeros to seven bytes. -/
def paddedCauses (causes : List Cause) : List Byte := causes.map Cause.code ++ List.replicate (7 - causes.length) 0

theorem paddedCauses_length {causes : List Cause} (h : causes.length ≤ 7) : (paddedCauses causes).length = 7 := by
  simp [paddedCauses, h]

theorem paddedCauses_byteAt (causes : List Cause) (i : Nat) :
    byteAt (paddedCauses causes) i = ((causes[i]?).map Cause.code).getD 0 := by
  rw [byteAt, paddedCauses, List.getD_eq_getElem?_getD]
  by_cases h : i < causes.length
  · rw [List.getElem?_append_left (by simpa using h), List.getElem?_map]
  · rw [List.getElem?_append_right (by simpa using h), List.getElem?_eq_none (Nat.not_lt.mp h), List.getElem?_replicate]
    split <;> rfl

theorem byteAt_append_left {l : List Byte} {k : Nat} (h : k < l.length) (m : List Byte) :
    byteAt (l ++ m) k = byteAt l k := List.getD_append _ _ _ _ h

theorem byteAt_append_right (l m : List Byte) (k : Nat) : byteAt (l ++ m) (l.length + k) = byteAt m k := by
  rw [byteAt, List.getD_append_right _ _ _ _ (Nat.le_add_right ..), Nat.add_sub_cancel_left, byteAt]

/-- R186: the 17 bytes of a log entry before its causes. -/
def LogEntry.fixedBytes (e : LogEntry) : List Byte :=
  le32 e.seq ++ le32 e.indexCount ++
    [byteOf e.lane.val, e.kind.code, boolByte e.serial.isSome ||| boolByte e.dose.isSome <<< 1] ++
    le24 (e.serial.getD 0) ++ [byteOf ((e.recipe.map (·.val)).getD 0), e.disposition.code, byteOf e.causes.length]

theorem LogEntry.bytes_eq (e : LogEntry) :
    e.bytes = e.fixedBytes ++ (paddedCauses e.causes ++ nat24 (e.dose.getD 0)) := List.append_assoc ..

theorem LogEntry.bytes_after (e : LogEntry) (k : Nat) :
    byteAt e.bytes (17 + k) = byteAt (paddedCauses e.causes ++ nat24 (e.dose.getD 0)) k :=
  e.bytes_eq ▸ byteAt_append_right e.fixedBytes _ k

/-- R186: the causes of a log entry stand at 17..23. -/
theorem LogEntry.bytes_cause {e : LogEntry} (h : e.causes.length ≤ 7) {i : Nat} (hi : i < 7) :
    byteAt e.bytes (17 + i) = ((e.causes[i]?).map Cause.code).getD 0 := by
  rw [e.bytes_after, byteAt_append_left (by rwa [paddedCauses_length h]), paddedCauses_byteAt]

/-- R186: the dose of a log entry stands at 24..26. -/
theorem LogEntry.bytes_dose {e : LogEntry} (h : e.causes.length ≤ 7) :
    tripleAt e.bytes 24 = BitVec.ofNat 24 (e.dose.getD 0) := by
  have hbyte (k : Nat) : byteAt e.bytes (24 + k) = byteAt (nat24 (e.dose.getD 0)) k := by
    have hafter := byteAt_append_right (paddedCauses e.causes) (nat24 (e.dose.getD 0)) k
    rw [paddedCauses_length h, ← e.bytes_after, ← Nat.add_assoc] at hafter
    exact hafter
  have hread := congr (congr (congrArg join24 (hbyte 0)) (hbyte 1)) (hbyte 2)
  exact hread.trans (join24_extract _)

/-- Settles O12: the record written out, a log entry around its padded causes, and a lane entry read back. -/
theorem wireLayouts : Obligations.WireLayouts := by
  refine ⟨fun p => ?_, rfl, rfl, fun e he => ?_, fun e => ?_⟩
  · rw [Record.bytes, nat24_eq]
    rfl
  · have hlength : e.bytes.length = 27 := by
      rw [e.bytes_eq, List.length_append, List.length_append, paddedCauses_length he]
      rfl
    obtain ⟨h0, h1, h3⟩ := presenceBits e.serial.isSome e.dose.isSome
    exact ⟨hlength, join32_extract _, join32_extract _, rfl, rfl, h0, h1, h3, join24_extract _, rfl, rfl, rfl,
      fun i hi => e.bytes_cause he hi, e.bytes_dose he⟩
  · obtain ⟨h0, h1, h2, h7⟩ := presenceBits3 e.serial.isSome e.recipe.isSome e.peak.isSome
    exact ⟨rfl, h0, h1, h2, h7, join24_extract _, rfl, join16_extract _, join16_extract _, join24_extract _,
      join16_extract _, rfl⟩

end Sys2Proof.Machine
end

section
/-! # What every step keeps of the ports

The invariant of the ports speaks of each port alone, and of one flag. Most of what the part does leaves both alone
(`State.leavesPorts`); what is left is the ports' own work, Read Events, a store write's end, the turn of the bauds and
the resets, each shown to keep the invariant. -/

namespace Sys2Proof.Machine
open Sys2Proof

/-! ## Operations that leave the ports alone -/

/-- From `s` to `t` the ports stay as they are, and so do STORE_DONE and the held store result of each. -/
def State.leavesPorts (s t : State) : Prop :=
  t.ports = s.ports ∧ ∀ p, (t.events.get p).storeResult = (s.events.get p).storeResult ∧
    (t.flagSet p .storeDone ↔ s.flagSet p .storeDone)

theorem State.leavesPorts.refl (s : State) : s.leavesPorts s := ⟨rfl, fun _ => ⟨rfl, Iff.rfl⟩⟩

theorem State.leavesPorts.trans {s t u : State} (h : s.leavesPorts t) (h' : t.leavesPorts u) : s.leavesPorts u := by
  obtain ⟨hports, hevents⟩ := h
  obtain ⟨hports', hevents'⟩ := h'
  refine ⟨hports'.trans hports, fun p => ?_⟩
  obtain ⟨hresult, hdone⟩ := hevents p
  obtain ⟨hresult', hdone'⟩ := hevents' p
  exact ⟨hresult'.trans hresult, hdone'.trans hdone⟩

theorem State.leavesPorts.portsInv {s t : State} (h : s.leavesPorts t) (hs : s.portsInv) : t.portsInv := by
  intro p
  obtain ⟨hports, hevents⟩ := h
  obtain ⟨hresult, hdone⟩ := hevents p
  obtain ⟨hport, hevent⟩ := hs p
  refine ⟨hports ▸ hport, ?_⟩
  rw [PortEvents.inv, hresult]
  exact hevent.trans hdone.symm

/-- R188: flags raised beside STORE_DONE, with the ports as they were, leave the ports alone. -/
theorem State.raises.leavesPorts {s t : State} {news : Port → EventFlag → Prop} (h : s.raises t news)
    (hp : t.ports = s.ports) (hn : ∀ p, ¬news p .storeDone) : s.leavesPorts t := by
  refine ⟨hp, fun p => ?_⟩
  obtain ⟨-, hresult, hflags⟩ := h p
  exact ⟨hresult, (hflags .storeDone).trans (or_iff_left (hn p))⟩

section
variable (s : State)

theorem State.raiseAll_leavesPorts {f : EventFlag} (hf : f ≠ .storeDone) : s.leavesPorts (s.raiseAll f) :=
  (s.raiseAll_raises f).leavesPorts rfl fun _ => hf.symm

theorem State.changeMode_leavesPorts (m : Mode) : s.leavesPorts (s.changeMode m) :=
  State.raiseAll_leavesPorts (s.setMode _) (f := .mode) nofun

theorem State.loseTrackAt_leavesPorts (lanes length : Nat) : s.leavesPorts (s.loseTrackAt lanes length) :=
  State.raiseAll_leavesPorts (s.setWeb _) (f := .trackLost) nofun

theorem State.evaluateLane_leavesPorts (added : Bool) (lane : Lane) : s.leavesPorts (s.evaluateLane added lane) := by
  refine (s.evaluateLane_raises added lane).leavesPorts ?_ (by simp)
  rw [State.evaluateLane_eq]
  rfl

theorem State.evaluateLanes_leavesPorts (before : Nat) : s.leavesPorts (s.evaluateLanes before) := by
  refine (s.evaluateLanes_raises before).leavesPorts ?_ (by simp)
  obtain ⟨lanes, events, h⟩ := s.evaluateLanes_eq before
  rw [h]
  rfl

theorem State.idlePass_leavesPorts (temps : Quad RawCode) : s.leavesPorts (s.idlePass temps) := by
  refine (s.idlePass_raises temps).leavesPorts ?_ (by simp)
  obtain ⟨lanes, events, h⟩ := s.idlePass_eq temps
  rw [h]
  rfl

theorem State.endStroke_leavesPorts (now : Time) (k : Stroke) (kind : EndKind) (verdict : StrokeLane → ReportVerdict) :
    s.leavesPorts (s.endStroke now k kind verdict) := by
  refine (s.endStroke_raises now k kind verdict).leavesPorts ?_ (by simp)
  rw [State.endStroke_eq]
  rfl

theorem State.abortStroke_leavesPorts (now : Time) : s.leavesPorts (s.abortStroke now) := by
  refine (s.abortStroke_raises now).leavesPorts ?_ (by simp)
  rw [State.abortStroke_frame]

theorem State.verdictIndex_leavesPorts (cards : Quad Bool) : s.leavesPorts (s.verdictIndex cards) := by
  refine (s.verdictIndex_raises cards).leavesPorts ?_ (by simp)
  rw [State.verdictIndex_eq]
  rfl

theorem State.gateIndex_leavesPorts (now : Time) : s.leavesPorts (s.gateIndex now) := by
  refine (s.gateIndex_raises now).leavesPorts ?_ (by simp)
  rw [State.gateIndex_eq]
  rfl

theorem State.drainCheck_leavesPorts : s.leavesPorts s.drainCheck := by
  obtain ⟨-, -, h⟩ | ⟨-, h⟩ := s.drainCheck_cases <;> rw [h]
  · exact s.changeMode_leavesPorts _
  · exact .refl s

theorem State.enterStandby_leavesPorts (now : Time) : s.leavesPorts (s.enterStandby now) := by
  refine (s.enterStandby_raises now).leavesPorts ?_ (by simp)
  rw [State.enterStandby_frame]

theorem State.handOn_leavesPorts (now : Time) (cards : Quad Bool) : s.leavesPorts (s.handOn now cards) :=
  (((s.verdictIndex_leavesPorts cards).trans (State.abortStroke_leavesPorts _ now)).trans
    (State.gateIndex_leavesPorts _ now)).trans (State.drainCheck_leavesPorts _)

theorem State.indexEdge_leavesPorts (now : Time) (cards : Quad Bool) : s.leavesPorts (s.indexEdge now cards) := by
  unfold State.indexEdge
  split
  · rcases ha : s.mode.mode.active with _ | _
    · rw [State.takeIndex_inactive ha]
      exact State.loseTrackAt_leavesPorts (s.setWeb (s.web.countEdge now)) _ _
    · rw [State.takeIndex_active ha]
      exact (s.shifted now).handOn_leavesPorts now cards
  · exact s.raiseAll_leavesPorts nofun

theorem State.completeStroke_leavesPorts (now : Time) : s.leavesPorts (s.completeStroke now) := by
  unfold State.completeStroke
  split
  · exact s.endStroke_leavesPorts ..
  · exact .refl s

theorem State.expirePulse_leavesPorts (now : Time) (lane : Lane) : s.leavesPorts (s.expirePulse now lane) := by
  unfold State.expirePulse
  repeat' split
  all_goals exact .refl s

theorem State.takeEffect_leavesPorts (c : Configuration) : s.leavesPorts (s.takeEffect c) :=
  (State.loseTrackAt_leavesPorts (s.loadSettings c) c.lanes c.length).trans (State.evaluateLanes_leavesPorts _ _)

/-! ## Requests -/

theorem takeEnterStandby_leavesPorts (now : Time) : s.leavesPorts (takeEnterStandby now s).1 := by
  unfold takeEnterStandby
  repeat' split
  any_goals exact .refl s
  all_goals exact s.enterStandby_leavesPorts now

theorem takeLeaveStandby_leavesPorts (now : Time) : s.leavesPorts (takeLeaveStandby now s).1 := by
  unfold takeLeaveStandby
  repeat' split
  any_goals exact .refl s
  exact s.changeMode_leavesPorts .waking

theorem takeStart_leavesPorts : s.leavesPorts (takeStart s).1 := by
  unfold takeStart
  repeat' split
  any_goals exact .refl s
  all_goals exact s.changeMode_leavesPorts .run

theorem takeStop_leavesPorts : s.leavesPorts (takeStop s).1 := by
  unfold takeStop
  split
  any_goals exact .refl s
  exact (s.changeMode_leavesPorts .drain).trans (State.drainCheck_leavesPorts _)

theorem takeDeclareWebBreak_leavesPorts : s.leavesPorts (takeDeclareWebBreak s).1 := by
  have hlost : s.leavesPorts s.loseTrack := s.loseTrackAt_leavesPorts _ _
  unfold takeDeclareWebBreak
  split
  case h_1 => exact .refl s
  case h_2 | h_3 => exact hlost
  all_goals exact hlost.trans (State.changeMode_leavesPorts _ .setup)

theorem takeSetLaneRecipe_leavesPorts (lane presence slot : Byte) :
    s.leavesPorts (takeSetLaneRecipe lane presence slot s).1 := by
  unfold takeSetLaneRecipe
  repeat' split
  any_goals exact .refl s
  exact State.evaluateLane_leavesPorts (s.setMode _) false _

theorem takePostVerdict_leavesPorts (port : Port) (station lane : Byte) (serial : Serial) (value detail : Byte) :
    s.leavesPorts (takePostVerdict port station lane serial value detail s).1 := by
  simp only [takePostVerdict, postRecord]
  repeat' split
  all_goals exact .refl s

/-- R189: an enable set touches no flag. -/
theorem takeSetEventEnable_leavesPorts (port : Port) (set : BitVec 16) :
    s.leavesPorts (takeSetEventEnable port set s).1 := by
  unfold takeSetEventEnable
  split
  · exact .refl s
  · refine ⟨rfl, fun p => ?_⟩
    simp only [State.flagSet, State.setEvents_events, Quad.get_modify]
    split <;> exact ⟨rfl, Iff.rfl⟩

/-- No request but Read Events touches a port, a STORE_DONE flag or a store result. -/
theorem takeRequest_leavesPorts (now : Time) (port : Port) {r : Request} (hr : r ≠ .readEvents) :
    s.leavesPorts (takeRequest now port r s).1 := by
  have same {t : State} (h : t = s) : s.leavesPorts t := h ▸ .refl s
  cases r with
  | readEvents => exact absurd rfl hr
  | identify | readLineStatus | resetPart => exact .refl s
  | readRecord | findSerial | readPlane | readStrokeReport | readPlatens | readDischargeLog | readConfiguration
  | readRecipe | readPortMask =>
    apply same
    simp only [takeRequest, takeReadRecord_state, takeFindSerial_state, takeReadPlane_state, takeReadStrokeReport_state,
      takeReadPlatens_state, takeReadDischargeLog_state, takeReadConfiguration_state, takeReadRecipe_state,
      takeReadPortMask_state]
  | enterStandby => exact takeEnterStandby_leavesPorts s now
  | leaveStandby => exact takeLeaveStandby_leavesPorts s now
  | start => exact takeStart_leavesPorts s
  | stop => exact takeStop_leavesPorts s
  | declareWebBreak => exact takeDeclareWebBreak_leavesPorts s
  | setLaneRecipe lane presence slot => exact takeSetLaneRecipe_leavesPorts s lane presence slot
  | postVerdict station lane serial value detail => exact takePostVerdict_leavesPorts s ..
  | setEventEnable set => exact takeSetEventEnable_leavesPorts s port set
  | setLaneMask | setHold | clearHold | writeConfiguration | writeRecipe | setPortMask =>
    simp only [takeRequest, takeSetLaneMask, takeSetHold, takeClearHold, holdRequest, takeWriteConfiguration,
      takeWriteRecipe, takeSetPortMask]
    repeat' split
    all_goals exact .refl s

end

/-! ## One port changed -/

section
variable {s : State}

theorem State.portsInv.setPort (hs : s.portsInv) (port : Port) {p : StationPort} (hp : p.inv) :
    (s.setPort port p).portsInv := by
  intro i
  obtain ⟨hport, hevents⟩ := hs i
  refine ⟨?_, hevents⟩
  rw [State.setPort, State.setPorts_ports, Quad.get_set]
  split
  · exact hp
  · exact hport

theorem State.portsInv.setEvents (hs : s.portsInv) (port : Port) {e : PortEvents} (he : e.inv) :
    (s.setEvents (s.events.set port e)).portsInv := by
  intro i
  obtain ⟨hport, hevents⟩ := hs i
  refine ⟨hport, ?_⟩
  rw [State.setEvents_events, Quad.get_set]
  split
  · exact he
  · exact hevents

theorem State.portsInv.port (hs : s.portsInv) (p : Port) : (s.ports.get p).inv := (hs p).1

theorem State.portsInv.events (hs : s.portsInv) (p : Port) : (s.events.get p).inv := (hs p).2

/-- R177: a port that is sending may hold a frame and an old baud. -/
theorem StationPort.inv_of_sending {p : StationPort} (h : p.sending.isSome = true) : p.inv := ⟨fun _ => h, fun _ => h⟩

/-- R190: STORE_DONE is reported when it is set and enabled. -/
theorem PortEvents.reportsStore_eq (e : PortEvents) :
    e.reportsStore = (e.flags.getLsbD EventFlag.storeDone.bit && e.enable.getLsbD EventFlag.storeDone.bit) := by
  rw [PortEvents.reportsStore, EventFlag.mask, BitVec.and_twoPow, PortEvents.reported, BitVec.getLsbD_and]
  split
  · rename_i h
    rw [h]
    rfl
  · rename_i h
    exact (Bool.eq_false_iff.mpr h).symm

/-- R190: Read Events takes the store result with its flag. -/
theorem PortEvents.clearReported_inv {e : PortEvents} (h : e.inv) : e.clearReported.inv := by
  have hflag : e.clearReported.flags.getLsbD EventFlag.storeDone.bit =
      (e.flags.getLsbD EventFlag.storeDone.bit && !e.enable.getLsbD EventFlag.storeDone.bit) := by
    simp [PortEvents.clearReported, EventFlag.bit]
  rw [PortEvents.inv, hflag, PortEvents.clearReported, PortEvents.reportsStore_eq]
  unfold PortEvents.inv at h
  cases e.enable.getLsbD EventFlag.storeDone.bit with
  | false => simpa using h
  | true =>
    cases hf : e.flags.getLsbD EventFlag.storeDone.bit with
    | false => simpa [hf] using h
    | true => simp

/-- R188: STORE_DONE and its result come together. -/
theorem State.storeDone_portsInv (hs : s.portsInv) (p : Port) (r : StoreResult) : (s.storeDone p r).portsInv := by
  refine State.portsInv.setEvents hs p ?_
  simp [PortEvents.inv, PortEvents.raise, EventFlag.mask, EventFlag.bit]

/-- R188, R190: every request keeps the invariant of the ports. -/
theorem takeRequest_portsInv (hs : s.portsInv) (now : Time) (port : Port) (r : Request) :
    (takeRequest now port r s).1.portsInv := by
  by_cases hr : r = .readEvents
  · subst hr
    exact hs.setEvents port (PortEvents.clearReported_inv (hs.events port))
  · exact (takeRequest_leavesPorts s now port hr).portsInv hs

/-! ## Frames and responses (R171, R177) -/

theorem respond_portsInv {x : State × Reply} (hs : x.1.portsInv) (port : Port) (code : Byte) :
    (respond port code x).portsInv := hs.setPort port (StationPort.inv_of_sending rfl)

theorem answerRequest_portsInv (hs : s.portsInv) (now : Time) (port : Port) (r : Request) :
    (answerRequest now port r s).portsInv := respond_portsInv (takeRequest_portsInv hs now port r) port r.code

theorem answerFrame_portsInv (hs : s.portsInv) (now : Time) (port : Port) (f : Frame) :
    (answerFrame now port f s).portsInv := by
  unfold answerFrame
  split
  case h_4 => exact answerRequest_portsInv hs now port _
  all_goals exact respond_portsInv (x := (s, _)) hs port _

/-- R177: a frame is held only behind a response that is being sent. -/
theorem deliver_portsInv {answer : State → State} (ha : ∀ s : State, s.portsInv → (answer s).portsInv)
    (hs : s.portsInv) (port : Port) (f : Frame) : (deliver port f answer s).portsInv := by
  simp only [deliver]
  split
  · exact hs
  · have hhunt : (s.hunt port).portsInv := hs.setPort port (hs.port port)
    split
    · exact hhunt.setPort port (hhunt.port port)
    · rename_i r _ hsending
      exact hhunt.setPort port (StationPort.inv_of_sending (by simp [hsending]))
    · exact ha _ hhunt

theorem frameComplete_portsInv (hs : s.portsInv) (now : Time) (port : Port) (f : Frame) :
    (frameComplete now port f s).portsInv :=
  deliver_portsInv (fun _ h => answerFrame_portsInv h now port f) hs port f

theorem submit_portsInv (hs : s.portsInv) (now : Time) (port : Port) (r : Request) : (submit now port r s).portsInv :=
  deliver_portsInv (fun _ h => answerRequest_portsInv h now port r) hs port r.frame

theorem State.receiveByte_portsInv (hs : s.portsInv) (begun now : Time) (port : Port) (b : Byte) :
    (s.receiveByte begun now port b).portsInv := by
  unfold State.receiveByte
  repeat' split
  · exact hs
  · exact hs.setPort port (hs.port port)
  · exact frameComplete_portsInv hs _ _ _

/-- R171, R184: a reset leaves every port idle at one baud, with no flag set. -/
theorem State.afterReset_portsInv (s : State) (keep : Bool) (wake : Option Wake) : (s.afterReset keep wake).portsInv := by
  intro p
  have hport : (s.afterReset keep wake).ports.get p = .fresh (s.store.supplied.bauds.get p) := Quad.get_map ..
  have hevents : (s.afterReset keep wake).events.get p = .fresh (s.store.supplied.enables.get p) := Quad.get_map ..
  rw [hport, hevents]
  exact ⟨StationPort.fresh_inv _, PortEvents.fresh_inv _⟩

/-- R171, R177: as a response ends the baud follows and the hold empties, before the held frame is answered. -/
theorem State.responseSent_portsInv (hs : s.portsInv) (now : Time) (port : Port) :
    (s.responseSent now port).portsInv := by
  have hidle : (s.transmitterIdle port).portsInv := hs.setPort port ⟨nofun, fun h => absurd rfl h⟩
  cases hsending : (s.ports.get port).sending with
  | none => rwa [State.responseSent_of_idle hsending]
  | some r =>
    cases ha : r.announcesReset with
    | true =>
      rw [State.responseSent_eq_partReset hsending ha]
      exact s.afterReset_portsInv _ _
    | false =>
      cases hheld : (s.ports.get port).held with
      | none => rwa [State.responseSent_of_no_frame hsending ha hheld]
      | some f =>
        rw [State.responseSent_of_frame hsending ha hheld]
        exact answerFrame_portsInv hidle now port f

theorem State.resetTaken_portsInv (hs : s.portsInv) (now : Time) (port : Port) : (s.resetTaken now port).portsInv := by
  unfold State.resetTaken
  split
  · exact s.afterReset_portsInv _ _
  · exact hs

theorem State.releaseReset_portsInv (hs : s.portsInv) (now : Time) : (s.releaseReset now).portsInv := by
  unfold State.releaseReset
  split
  · exact s.afterReset_portsInv false (some (resetWake now))
  · exact hs

/-! ## The store's writes and the self-check (R171, R188) -/

theorem State.completeWrite_portsInv (hs : s.portsInv) (w : StoreWrite) : (s.completeWrite w).portsInv := by
  have hdone : ((s.setStore (s.store.complete w.target)).storeDone w.port .ok).portsInv :=
    State.storeDone_portsInv (s := s.setStore _) hs _ _
  unfold State.completeWrite
  split
  · exact (State.takeEffect_leavesPorts _ _).portsInv hdone
  · exact hdone

theorem State.abandonWrite_portsInv (hs : s.portsInv) (w : StoreWrite) : (s.abandonWrite w).portsInv := by
  have hdone : ((s.setStore (s.store.abandon w.target)).storeDone w.port .timeout).portsInv :=
    State.storeDone_portsInv (s := s.setStore _) hs _ _
  unfold State.abandonWrite
  split <;> exact hdone

theorem State.storeCompletion_portsInv (hs : s.portsInv) (now accepted : Time) :
    (s.storeCompletion now accepted).portsInv := by
  unfold State.storeCompletion
  repeat' split
  any_goals exact hs
  exact State.completeWrite_portsInv hs _

theorem State.storeDeadline_portsInv (hs : s.portsInv) (now : Time) : (s.storeDeadline now).portsInv := by
  unfold State.storeDeadline
  repeat' split
  any_goals exact hs
  exact State.abandonWrite_portsInv hs _

/-- R171: a turn of the baud leaves the old one to a transmitter that is sending. -/
theorem StationPort.turnBaud_inv {p : StationPort} (h : p.inv) (baud : Baud) : (p.turnBaud baud).inv := by
  obtain ⟨hheld, hbaud⟩ := h
  by_cases he : p.rxBaud = baud
  · rw [StationPort.turnBaud_of_eq he]
    exact ⟨hheld, hbaud⟩
  · rw [StationPort.turnBaud_of_ne he]
    refine ⟨hheld, fun h => ?_⟩
    by_contra hs
    exact h (if_neg hs)

theorem State.factoryTurned_portsInv (hs : s.portsInv) (ref : RawCode) : (s.factoryTurned ref).portsInv := by
  intro p
  obtain ⟨-, hresult, hflags⟩ := s.factoryTurned_events ref p
  have hdone : (s.factoryTurned ref).flagSet p .storeDone ↔ s.flagSet p .storeDone :=
    (hflags .storeDone).trans (or_iff_left nofun)
  refine ⟨?_, ?_⟩
  · rw [State.factoryTurned_ports]
    exact StationPort.turnBaud_inv (hs.port p) _
  · rw [PortEvents.inv, hresult]
    exact (hs.events p).trans hdone.symm

theorem wakeFlag_ne_storeDone (o : WakeOrigin) : wakeFlag o ≠ .storeDone := by
  cases o <;> nofun

theorem State.completeSelfCheck_portsInv (hs : s.portsInv) (now : Time) (w : Wake) (ref : RawCode) :
    (s.completeSelfCheck now w ref).portsInv := by
  have hend (u : State) : u.leavesPorts (((u.evaluateLanes s.web.lanes).startIdle now).raiseAll (wakeFlag w.origin)) :=
    (u.evaluateLanes_leavesPorts _).trans (State.raiseAll_leavesPorts (State.startIdle _ now) (wakeFlag_ne_storeDone _))
  by_cases hv : s.store.config.verifiesTo configFault .valid
  · rw [State.completeSelfCheck_valid now w ref hv]
    exact (hend (s.verified ref)).portsInv hs
  · rw [State.completeSelfCheck_invalid hv]
    exact (hend (s.factoryTurned ref)).portsInv (State.factoryTurned_portsInv hs ref)

theorem State.selfCheckExpiry_portsInv (hs : s.portsInv) (now : Time) (ref : RawCode) :
    (s.selfCheckExpiry now ref).portsInv := by
  unfold State.selfCheckExpiry
  repeat' split
  any_goals exact hs
  exact State.completeSelfCheck_portsInv hs now _ ref

end

/-! ## The step -/

/-- A line or timer command that keeps the invariant when it acts keeps it also while the RESET line is held. -/
theorem State.portsInv_of_unlessHeld {s e t : State}
    (h : (Host.Outcome.next (if s.resetHeld then s else e) : Answer) = .next t) (hs : s.portsInv)
    (he : e.portsInv) : t.portsInv := by
  cases h
  split
  · exact hs
  · exact he

theorem exec_portsInv (c : Instr) {s t : State} (h : exec c s = .next t) (hs : s.portsInv) : t.portsInv := by
  cases c with
  | indexEdge now cards => exact State.portsInv_of_unlessHeld h hs ((s.indexEdge_leavesPorts now cards).portsInv hs)
  | sealRisingEdge | round | roundCap =>
    refine State.portsInv_of_unlessHeld h hs ?_
    beta_reduce
    repeat' split
    all_goals exact hs
  | sealFallingEdge now => exact State.portsInv_of_unlessHeld h hs ((s.completeStroke_leavesPorts now).portsInv hs)
  | idlePass now temps =>
    refine State.portsInv_of_unlessHeld h hs ?_
    beta_reduce
    repeat' split
    any_goals exact hs
    exact (s.idlePass_leavesPorts temps).portsInv hs
  | rejectPulseExpiry now lane =>
    exact State.portsInv_of_unlessHeld h hs ((s.expirePulse_leavesPorts now lane).portsInv hs)
  | selfCheckExpiry now ref => exact State.portsInv_of_unlessHeld h hs (State.selfCheckExpiry_portsInv hs now ref)
  | storeWriteCompletion now accepted =>
    exact State.portsInv_of_unlessHeld h hs (State.storeCompletion_portsInv hs now accepted)
  | storeWriteDeadline now => exact State.portsInv_of_unlessHeld h hs (State.storeDeadline_portsInv hs now)
  | partResetTaken now port => exact State.portsInv_of_unlessHeld h hs (State.resetTaken_portsInv hs now port)
  | responseSent now port => exact State.portsInv_of_unlessHeld h hs (State.responseSent_portsInv hs now port)
  | interByteGap now port => exact State.portsInv_of_unlessHeld h hs (hs.setPort port (hs.port port))
  | powerOn now =>
    cases h
    exact s.afterReset_portsInv _ _
  | resetLineAssert now =>
    cases h
    exact s.afterReset_portsInv false none
  | resetLineRelease now =>
    cases h
    exact State.releaseReset_portsInv hs now
  | badLenFrame begun now port len =>
    cases h
    exact State.receiveByte_portsInv hs begun now port len
  | byteReceived begun now port byte stopOk =>
    cases h
    cases stopOk
    · exact hs
    · exact State.receiveByte_portsInv hs begun now port byte
  | frameHeld | lostFrame | badCheck | unknown =>
    cases h
    exact frameComplete_portsInv hs _ _ _
  | _ =>
    cases h
    exact submit_portsInv hs _ _ _

/-- Settles O60: a frame is held behind a response alone, the end of the response brings the baud, and the store result
comes and goes with STORE_DONE. -/
theorem stepKeepsPortsInv : Obligations.StepKeepsPortsInv := by
  intro s t hs h
  unfold step at h
  split at h
  · cases h
    exact hs
  · exact exec_portsInv _ h hs

end Sys2Proof.Machine
end

section
/-! # The Event Unit: the attention line, Read Events and Set Event Enable

The three statements are read bit by bit: the attention line is a common bit of the flags and the enable set, Read Events
answers and clears exactly those bits, and an enable set is a word with no bit beyond the ten flags. -/

namespace Sys2Proof.Machine
open Sys2Proof

/-! ## The flags of a port, bit by bit (R188, R190) -/

/-- R188: each of the ten bits is a flag. -/
theorem EventFlag.exists_bit_eq {n : Nat} (h : n < 10) : ∃ f : EventFlag, f.bit = n := by
  interval_cases n
  exacts [⟨.arrival, rfl⟩, ⟨.late, rfl⟩, ⟨.stroke, rfl⟩, ⟨.readyChange, rfl⟩, ⟨.gate, rfl⟩, ⟨.mode, rfl⟩,
    ⟨.trackLost, rfl⟩, ⟨.glitch, rfl⟩, ⟨.storeDone, rfl⟩, ⟨.resetDone, rfl⟩]

section
variable (e : PortEvents)

theorem PortEvents.reported_getLsbD (n : Nat) : e.reported.getLsbD n = (e.flags.getLsbD n && e.enable.getLsbD n) :=
  BitVec.getLsbD_and

theorem PortEvents.clearReported_flags_getLsbD (n : Nat) :
    e.clearReported.flags.getLsbD n = (e.flags.getLsbD n && !e.enable.getLsbD n) := by
  rw [PortEvents.clearReported, BitVec.getLsbD_and, BitVec.getLsbD_not]
  by_cases hn : n < 10
  · simp [hn]
  · simp [BitVec.getLsbD_of_ge e.flags n (Nat.not_lt.mp hn)]

/-- R190: the reported flags as the response carries them, in two bytes. -/
theorem PortEvents.reportedWord_getLsbD (n : Nat) :
    (e.reported.setWidth 16).getLsbD n = (e.flags.getLsbD n && e.enable.getLsbD n) := by
  rw [BitVec.getLsbD_setWidth, e.reported_getLsbD]
  by_cases hn : n < 16
  · simp [hn]
  · simp [BitVec.getLsbD_of_ge e.flags n (by omega)]

theorem PortEvents.reportedWord_storeDone : (e.reported.setWidth 16).getLsbD 8 = e.reportsStore := by
  rw [e.reportedWord_getLsbD, e.reportsStore_eq]
  rfl

/-- R189: the line is driven while a flag is reported. -/
theorem PortEvents.attention_iff :
    e.attention = true ↔ ∃ f : EventFlag, e.flags.getLsbD f.bit = true ∧ e.enable.getLsbD f.bit = true := by
  have hbit (n : Nat) : e.reported.getLsbD n = true ↔ e.flags.getLsbD n = true ∧ e.enable.getLsbD n = true := by
    rw [e.reported_getLsbD, Bool.and_eq_true]
  have hdriven : e.attention = true ↔ e.reported ≠ 0 := bne_iff_ne
  rw [hdriven]
  constructor
  · intro hne
    by_contra hnone
    refine hne (BitVec.eq_of_getLsbD_eq fun n hn => ?_)
    obtain ⟨f, rfl⟩ := EventFlag.exists_bit_eq hn
    have hunset : e.reported.getLsbD f.bit = false :=
      Bool.eq_false_iff.mpr fun hset => hnone ⟨f, (hbit f.bit).mp hset⟩
    exact hunset.trans BitVec.getLsbD_zero.symm
  · rintro ⟨f, hf⟩ hzero
    have hset := (hbit f.bit).mpr hf
    simp [hzero] at hset

end

/-! ## Enable sets (R189) -/

/-- R154, R189: an enable set is a word with no bit beyond the ten flags. -/
theorem eventSetOk_iff_bits (set : BitVec 16) : eventSetOk set = true ↔ ∀ n, 10 ≤ n → set.getLsbD n = false := by
  constructor
  · intro h n hn
    rw [← setWidth_flags ((eventSetOk_iff set).mp h)]
    exact BitVec.getLsbD_of_ge _ _ hn
  · exact fun h => decide_eq_true (Nat.lt_pow_two_of_testBit (n := 10) _ h)

section
variable {port : Port} {set : BitVec 16} {s : State}

theorem takeSetEventEnable_refused (h : eventSetOk set = false) :
    takeSetEventEnable port set s = (s, Reply.refuse .badValue) := by
  rw [takeSetEventEnable, h]
  rfl

theorem takeSetEventEnable_ok (h : eventSetOk set = true) :
    takeSetEventEnable port set s =
      (s.setEvents (s.events.set port { s.events.get port with enable := set.setWidth 10 }), Reply.ok []) := by
  rw [takeSetEventEnable, h]
  rfl

end

/-! ## The two requests on an idle port -/

section
variable {s : State} {port : Port} (hp : s.portIdle port) (now : Time)
include hp

/-- R190: the reported flags and the held result are answered, and cleared before the response is built. -/
theorem exec_readEvents_idle :
    exec (.readEvents now port) s =
      .next ((s.setEvents (s.events.set port (s.events.get port).clearReported)).answering port 0x40 .ok
        (le16 ((s.events.get port).reported.setWidth 16) ++
          [if (s.events.get port).reportsStore then ((s.events.get port).storeResult.map StoreResult.code).getD 0
            else 0])) :=
  exec_command_idle hp now .readEvents

theorem exec_setEventEnable_idle (set : BitVec 16) :
    exec (.setEventEnable now port set) s =
      .next ((takeSetEventEnable port set s).1.answering port 0x41 (takeSetEventEnable port set s).2.status
        (takeSetEventEnable port set s).2.data) :=
  exec_command_idle hp now (.setEventEnable set)

end

/-- Settles O59: the attention line and the reported flags bit by bit, and the two outcomes of an enable set. -/
theorem eventRequests : Obligations.EventRequests := by
  intro now port s hp
  refine ⟨(s.events.get port).attention_iff, ?_, fun set => ⟨fun ⟨n, hn, hbit⟩ => ?_, fun hbits => ?_⟩⟩
  · refine ⟨s.setEvents (s.events.set port (s.events.get port).clearReported),
      (s.events.get port).reported.setWidth 16, ?_⟩
    rw [State.setEvents_events, Quad.get_set_self, PortEvents.reportedWord_storeDone]
    refine ⟨?_, fun n => ?_, fun n => ?_, rfl, rfl, rfl⟩
    · rw [exec_readEvents_idle hp]
      rcases (s.events.get port).storeResult with _ | _ | _ <;> rfl
    · rw [PortEvents.reportedWord_getLsbD, Bool.and_eq_true]
    · rw [PortEvents.clearReported_flags_getLsbD, Bool.and_eq_true, Bool.not_eq_true']
  · have hbad : eventSetOk set = false := by
      rw [← Bool.not_eq_true, eventSetOk_iff_bits]
      exact fun hok => by simp [hok n hn] at hbit
    rw [exec_setEventEnable_idle hp, takeSetEventEnable_refused hbad]
    rfl
  · rw [exec_setEventEnable_idle hp, takeSetEventEnable_ok ((eventSetOk_iff_bits set).mpr hbits)]
    rfl

end Sys2Proof.Machine
end

section
/-! # The queue

A step takes the front of the queue, and nothing that the part does reads or changes the rest: each block's operation
leaves it as it is, and so each command does, which always answers a next state. -/

namespace Sys2Proof.Machine
open Sys2Proof

/-! ## The operations of the blocks -/

section
variable (s : State)

@[simp] theorem State.evaluateLane_pending (added : Bool) (lane : Lane) :
    (s.evaluateLane added lane).pending = s.pending :=
  (congrArg State.pending (s.evaluateLane_eq added lane)).trans rfl

@[simp] theorem State.evaluateLanes_pending (before : Nat) : (s.evaluateLanes before).pending = s.pending := by
  obtain ⟨lanes, events, h⟩ := s.evaluateLanes_eq before
  exact (congrArg State.pending h).trans rfl

@[simp] theorem State.idlePass_pending (temps : Quad RawCode) : (s.idlePass temps).pending = s.pending := by
  obtain ⟨lanes, events, h⟩ := s.idlePass_eq temps
  exact (congrArg State.pending h).trans rfl

@[simp] theorem State.endStroke_pending (now : Time) (k : Stroke) (kind : EndKind)
    (verdict : StrokeLane → ReportVerdict) : (s.endStroke now k kind verdict).pending = s.pending :=
  (congrArg State.pending (s.endStroke_eq now k kind verdict)).trans rfl

@[simp] theorem State.completeStroke_pending (now : Time) : (s.completeStroke now).pending = s.pending := by
  unfold State.completeStroke
  split
  · exact s.endStroke_pending ..
  · rfl

@[simp] theorem State.drainCheck_pending : s.drainCheck.pending = s.pending := by
  obtain ⟨-, -, h⟩ | ⟨-, h⟩ := s.drainCheck_cases <;> rw [h]
  rfl

@[simp] theorem State.enterStandby_pending (now : Time) : (s.enterStandby now).pending = s.pending :=
  (congrArg State.pending (s.enterStandby_frame now)).trans rfl

/-- R21: an index handed on to the four blocks. -/
theorem State.index_pending (now : Time) (cards : Quad Bool) :
    ((s.aborted now cards).gateIndex now).drainCheck.pending = s.pending :=
  ((s.aborted now cards).gateIndex_drainCheck_from now).pending.trans (s.aborted_from now cards).pending

@[simp] theorem State.indexEdge_pending (now : Time) (cards : Quad Bool) :
    (s.indexEdge now cards).pending = s.pending := by
  unfold State.indexEdge
  split
  · rcases ha : s.mode.mode.active with _ | _
    · rw [State.takeIndex_inactive ha]
      rfl
    · rw [State.takeIndex_active ha]
      exact s.index_pending now cards
  · rfl

@[simp] theorem State.expirePulse_pending (now : Time) (lane : Lane) :
    (s.expirePulse now lane).pending = s.pending := by
  unfold State.expirePulse
  repeat' split
  all_goals rfl

@[simp] theorem State.completeWrite_pending (w : StoreWrite) : (s.completeWrite w).pending = s.pending := by
  unfold State.completeWrite
  split
  · exact State.evaluateLanes_pending ..
  · rfl

@[simp] theorem State.abandonWrite_pending (w : StoreWrite) : (s.abandonWrite w).pending = s.pending := by
  unfold State.abandonWrite
  split <;> rfl

@[simp] theorem State.storeCompletion_pending (now accepted : Time) :
    (s.storeCompletion now accepted).pending = s.pending := by
  unfold State.storeCompletion
  repeat' split
  · exact s.completeWrite_pending _
  all_goals rfl

@[simp] theorem State.storeDeadline_pending (now : Time) : (s.storeDeadline now).pending = s.pending := by
  unfold State.storeDeadline
  repeat' split
  · exact s.abandonWrite_pending _
  all_goals rfl

@[simp] theorem State.completeSelfCheck_pending (now : Time) (w : Wake) (ref : RawCode) :
    (s.completeSelfCheck now w ref).pending = s.pending := by
  by_cases hv : s.store.config.verifiesTo configFault .valid
  · rw [State.completeSelfCheck_valid now w ref hv]
    exact (s.verified ref).evaluateLanes_pending _
  · rw [State.completeSelfCheck_invalid hv]
    exact (s.factoryTurned ref).evaluateLanes_pending _

@[simp] theorem State.selfCheckExpiry_pending (now : Time) (ref : RawCode) :
    (s.selfCheckExpiry now ref).pending = s.pending := by
  unfold State.selfCheckExpiry
  repeat' split
  · exact s.completeSelfCheck_pending ..
  all_goals rfl

/-! ## Requests -/

theorem takeEnterStandby_pending (now : Time) : (takeEnterStandby now s).1.pending = s.pending := by
  unfold takeEnterStandby withMode
  repeat' split
  any_goals rfl
  all_goals exact s.enterStandby_pending now

theorem takeStop_pending : (takeStop s).1.pending = s.pending := by
  unfold takeStop withMode
  split
  case h_4 => exact (s.changeMode .drain).drainCheck_pending
  all_goals rfl

theorem takeSetLaneRecipe_pending (lane presence slot : Byte) :
    (takeSetLaneRecipe lane presence slot s).1.pending = s.pending := by
  unfold takeSetLaneRecipe
  repeat' split
  any_goals rfl
  exact State.evaluateLane_pending (s.setMode _) false _

theorem takePostVerdict_pending (port : Port) (station lane : Byte) (serial : Serial) (value detail : Byte) :
    (takePostVerdict port station lane serial value detail s).1.pending = s.pending := by
  simp only [takePostVerdict, postRecord]
  repeat' split
  all_goals rfl

/-- R176: no request that a block takes reaches the queue. -/
theorem takeRequest_pending (now : Time) (port : Port) (r : Request) :
    (takeRequest now port r s).1.pending = s.pending := by
  cases r with
  | identify | readLineStatus | resetPart | readEvents => rfl
  | readRecord | findSerial | readPlane | readStrokeReport | readPlatens | readDischargeLog | readConfiguration
  | readRecipe | readPortMask =>
    simp only [takeRequest, takeReadRecord_state, takeFindSerial_state, takeReadPlane_state, takeReadStrokeReport_state,
      takeReadPlatens_state, takeReadDischargeLog_state, takeReadConfiguration_state, takeReadRecipe_state,
      takeReadPortMask_state]
  | enterStandby => exact takeEnterStandby_pending s now
  | stop => exact takeStop_pending s
  | setLaneRecipe lane presence slot => exact takeSetLaneRecipe_pending s lane presence slot
  | postVerdict station lane serial value detail => exact takePostVerdict_pending s ..
  | leaveStandby | start | declareWebBreak | setLaneMask | setHold | clearHold | setEventEnable | setPortMask
  | writeConfiguration | writeRecipe =>
    simp only [takeRequest, takeLeaveStandby, takeStart, takeDeclareWebBreak, takeSetLaneMask, takeSetHold,
      takeClearHold, holdRequest, takeSetEventEnable, takeSetPortMask, takeWriteConfiguration, takeWriteRecipe]
    repeat' split
    all_goals rfl

/-! ## Frames, responses and resets -/

theorem answerRequest_pending (now : Time) (port : Port) (r : Request) :
    (answerRequest now port r s).pending = s.pending := takeRequest_pending s now port r

theorem answerFrame_pending (now : Time) (port : Port) (f : Frame) :
    (answerFrame now port f s).pending = s.pending := by
  unfold answerFrame
  split
  case h_4 => exact answerRequest_pending s ..
  all_goals rfl

theorem deliver_pending {answer : State → State} (h : ∀ u : State, (answer u).pending = u.pending) (port : Port)
    (f : Frame) : (deliver port f answer s).pending = s.pending := by
  simp only [deliver]
  repeat' split
  case h_3 => exact h (s.hunt port)
  all_goals rfl

theorem frameComplete_pending (now : Time) (port : Port) (f : Frame) :
    (frameComplete now port f s).pending = s.pending :=
  deliver_pending s (fun u => answerFrame_pending u now port f) port f

theorem submit_pending (now : Time) (port : Port) (r : Request) : (submit now port r s).pending = s.pending :=
  deliver_pending s (fun u => answerRequest_pending u now port r) port r.frame

@[simp] theorem State.receiveByte_pending (begun now : Time) (port : Port) (b : Byte) :
    (s.receiveByte begun now port b).pending = s.pending := by
  unfold State.receiveByte
  repeat' split
  case h_2 => exact frameComplete_pending s ..
  all_goals rfl

@[simp] theorem State.responseSent_pending (now : Time) (port : Port) :
    (s.responseSent now port).pending = s.pending := by
  unfold State.responseSent State.answerHeld
  repeat' split
  any_goals rfl
  exact answerFrame_pending (State.setPorts _ _) ..

@[simp] theorem State.resetTaken_pending (now : Time) (port : Port) : (s.resetTaken now port).pending = s.pending := by
  unfold State.resetTaken
  split <;> rfl

@[simp] theorem State.releaseReset_pending (now : Time) : (s.releaseReset now).pending = s.pending := by
  unfold State.releaseReset
  split <;> rfl

end

/-! ## The commands -/

/-- From `s` an answer is a next state with the queue that `s` holds. -/
def State.answersNext (s : State) (a : Answer) : Prop := ∃ t, a = .next t ∧ t.pending = s.pending

section
variable {s : State}

theorem State.answersNext_next {t : State} (h : t.pending = s.pending) : s.answersNext (.next t) := ⟨t, rfl, h⟩

/-- A line or timer command leaves the queue alone while the RESET line is held, when it changes nothing, and when it
acts. -/
theorem State.answersNext_unlessHeld {e : State} (h : e.pending = s.pending) :
    s.answersNext (.next (if s.resetHeld then s else e)) := by
  refine State.answersNext_next ?_
  split
  · rfl
  · exact h

end

theorem exec_answersNext (c : Instr) (s : State) : s.answersNext (exec c s) := by
  cases c with
  | indexEdge now cards => exact State.answersNext_unlessHeld (s.indexEdge_pending now cards)
  | sealRisingEdge | round | roundCap =>
    refine State.answersNext_unlessHeld ?_
    beta_reduce
    repeat' split
    all_goals rfl
  | sealFallingEdge now => exact State.answersNext_unlessHeld (s.completeStroke_pending now)
  | idlePass now temps =>
    refine State.answersNext_unlessHeld ?_
    beta_reduce
    repeat' split
    any_goals rfl
    exact s.idlePass_pending temps
  | rejectPulseExpiry now lane => exact State.answersNext_unlessHeld (s.expirePulse_pending now lane)
  | selfCheckExpiry now ref => exact State.answersNext_unlessHeld (s.selfCheckExpiry_pending now ref)
  | storeWriteCompletion now accepted =>
    exact State.answersNext_unlessHeld (s.storeCompletion_pending now accepted)
  | storeWriteDeadline now => exact State.answersNext_unlessHeld (s.storeDeadline_pending now)
  | partResetTaken now port => exact State.answersNext_unlessHeld (s.resetTaken_pending now port)
  | responseSent now port => exact State.answersNext_unlessHeld (s.responseSent_pending now port)
  | interByteGap => exact State.answersNext_unlessHeld rfl
  | powerOn | resetLineAssert => exact State.answersNext_next rfl
  | resetLineRelease now => exact State.answersNext_next (s.releaseReset_pending now)
  | badLenFrame begun now port len => exact State.answersNext_next (s.receiveByte_pending begun now port len)
  | byteReceived begun now port byte stopOk =>
    refine State.answersNext_next ?_
    cases stopOk with
    | false => rfl
    | true => exact s.receiveByte_pending begun now port byte
  | frameHeld | lostFrame | badCheck | unknown => exact State.answersNext_next (frameComplete_pending s ..)
  | _ => exact State.answersNext_next (submit_pending s ..)

/-- Settles O2: every command's meaning is a next state, and no operation it calls touches the queue. -/
theorem everyCommandAnswersNext : Obligations.EveryCommandAnswersNext := exec_answersNext

/-! ## The step -/

theorem step_of_queued (c : Instr) (rest : List Instr) (s : State) :
    step { s with pending := c :: rest } = exec c { s with pending := rest } := rfl

theorem step_of_idle {s : State} (h : s.pending = []) : step s = .next s := by
  unfold step
  rw [h]

/-- Settles O1: the two cases of the queue. -/
theorem stepTakesFrontCommand : Obligations.StepTakesFrontCommand := ⟨step_of_queued, fun _ => step_of_idle⟩

end Sys2Proof.Machine
end
